-- ==== Sys2Proof/Word.lean ====
section
/-!
DEFINITION. The unsigned field widths of the engine (00_scope.md R5, 40_bitfield.md R108).
Every value is typed by its width. Concatenation `a ‖ b` is `a ++ b` and exclusive OR is `a ^^^ b` (R9, R107).
-/

namespace Sys2Proof

/-- A 64-bit block or key as it crosses the ports (R5, R65). -/
abbrev Block := BitVec 64

/-- A 32-bit half of a block (R5). -/
abbrev Half := BitVec 32

/-- The 56-bit key after PC-1 (R5, R151). -/
abbrev KeyPlus := BitVec 56

/-- A 28-bit half of the key schedule (R5, R152). -/
abbrev KeyHalf := BitVec 28

/-- A 48-bit round key (R5, R153). -/
abbrev RoundKey := BitVec 48

/-- The ordered sequence K_1 .. K_16, with K_i at index i - 1 (R70, R153). -/
abbrev RoundKeys := Vector RoundKey 16

/-- The 3-bit command opcode (R6, R80). -/
abbrev Opcode := BitVec 3

/-- The 4-bit step counter, holding round number minus one (R6, R24). -/
abbrev Counter := BitVec 4

end Sys2Proof
end

