-- ==== Sys2Proof/Config.lean ====
section
/-!
DEFINITION. The values the spec leaves open inside the engine: the registers that reset does not define (10_state.md R41, 93 U1, U2).
Each is a free value without a body, indexed by the number of draws made so far (log entry 3): nothing can prove what it is.
-/

namespace Sys2Proof

/-- DESIGN CHOICE (log entry 3): what `L` holds after the reset edge of draw n (R31, R41 "unspecified"). -/
opaque Config.unspecL : Nat → Half

/-- DESIGN CHOICE (log entry 3): what `R` holds after the reset edge of draw n (R32, R41). -/
opaque Config.unspecR : Nat → Half

/-- DESIGN CHOICE (log entry 3): what `C` holds after the reset edge of draw n (R33, R41). -/
opaque Config.unspecC : Nat → KeyHalf

/-- DESIGN CHOICE (log entry 3): what `D` holds after the reset edge of draw n (R34, R41). -/
opaque Config.unspecD : Nat → KeyHalf

/-- DESIGN CHOICE (log entry 3): what `RK[1..16]` holds after the reset edge of draw n (R36, R41). -/
opaque Config.unspecRK : Nat → RoundKeys

end Sys2Proof
end

