-- ==== Sys2Proof/Syntax.lean ====
section
/-!
DEFINITION. The commands of the opcode map (30_encoding.md R80 to R82), one constructor per row of spec/opcode_table.json.
-/

namespace Sys2Proof

/-- The triple of port values that is a command, sampled at the accept edge (R80). -/
structure Command where
  /-- `cmd_op[2:0]`. -/
  op : Opcode
  /-- `key_in[63:0]`. -/
  key : Block
  /-- `data_in[63:0]`. -/
  data : Block
deriving DecidableEq, Repr

/-- A decoded command with the operands it reads (R82). -/
inductive Instr where
  /-- `000` NOP: no operation (R213). -/
  | nop
  /-- `001` LDKEY K: load a key and derive its round keys (R214). -/
  | ldkey (k : Block)
  /-- `010` ENC M: encrypt one block with the stored round keys (R215). -/
  | enc (m : Block)
  /-- `011` DEC M: decrypt one block with the stored round keys (R216). -/
  | dec (m : Block)
  /-- `100`: reserved, raises ILLEGAL_CMD (R219). -/
  | rsvd4
  /-- `101`: reserved, raises ILLEGAL_CMD (R219). -/
  | rsvd5
  /-- `110` ENCK K, M: load a key and encrypt one block (R217). -/
  | enck (k m : Block)
  /-- `111` DECK K, M: load a key and decrypt one block (R218). -/
  | deck (k m : Block)
deriving DecidableEq, Repr

end Sys2Proof
end

