-- ==== Sys2Proof/Machine/State.lean ====
section
/-!
DEFINITION. The state of DES-CORE (10_state.md), the reasons a step can stop, and the state after reset (R41).
-/

namespace Sys2Proof.Machine

/-- The controller's FSM state `st` (R23). -/
inductive Phase where
  /-- `0b00`: waiting for a command. -/
  | idle
  /-- `0b01`: key-schedule rounds. -/
  | ks
  /-- `0b10`: Feistel rounds. -/
  | rnd
  /-- `0b11`: final permutation. -/
  | fin
deriving DecidableEq, Repr

/-- The error code `err` (R30, R241). The code `0b11` is never produced and has no constructor (U6, log entry 8). -/
inductive ErrCode where
  /-- `0b00`: accepted without error. -/
  | ok
  /-- `0b01`: `op` is 100 or 101 (R242). -/
  | illegalCmd
  /-- `0b10`: ENC or DEC with no loaded key (R243). -/
  | noKey
deriving DecidableEq, Repr

/-- The values the host drives on the input ports in one cycle (R21). `clk` is the step itself. -/
structure Ports where
  /-- `rst`: synchronous reset, active high. -/
  rst : Bool
  /-- `cmd_valid`. -/
  cmdValid : Bool
  /-- `cmd_op[2:0]`. -/
  cmdOp : Opcode
  /-- `key_in[63:0]`. -/
  keyIn : Block
  /-- `data_in[63:0]`. -/
  dataIn : Block
  /-- `rk_sel[3:0]`. -/
  rkSel : BitVec 4
deriving DecidableEq, Repr

/-- A host that presents nothing: every input 0 (DESIGN CHOICE, log entries 1 and 2). -/
def Ports.quiet : Ports :=
  { rst := false, cmdValid := false, cmdOp := 0, keyIn := 0, dataIn := 0, rkSel := 0 }

/-- The engine's registers in one cycle, the input ports of that cycle, and the host's coming port values. -/
structure State where
  /-- `st` (R23). -/
  st : Phase
  /-- `cnt` (R24). -/
  cnt : Counter
  /-- `dec`: round-key order, true is reversed (R25). -/
  dec : Bool
  /-- `chain`: a block operation follows the key schedule (R26). -/
  chain : Bool
  /-- `key_valid` (R27). -/
  keyValid : Bool
  /-- `dout_valid` (R28). -/
  doutValid : Bool
  /-- `done` (R29). -/
  done : Bool
  /-- `err` (R30). -/
  err : ErrCode
  /-- `L` (R31). -/
  L : Half
  /-- `R` (R32). -/
  R : Half
  /-- `C` (R33). -/
  C : KeyHalf
  /-- `D` (R34). -/
  D : KeyHalf
  /-- `DOUT` (R35). -/
  DOUT : Block
  /-- `RK[1..16]`, entry i at index i - 1 (R36, R70). -/
  RK : RoundKeys
  /-- The input ports in this cycle (R21). -/
  ports : Ports
  /-- The model's own: what the host drives in the cycles after this one; quiet once it is used up (log entry 1). -/
  upcoming : List Ports
  /-- The model's own: a reset edge has occurred since power-up (R42, log entry 4). -/
  booted : Bool
  /-- The model's own: the index of the next draw of the unspecified registers (R41, log entry 3). -/
  draws : Nat
deriving DecidableEq, Repr

/-- The engine stops with a fault in no case: an error completes its command and the engine goes on (R240, R249).
No meaning and no step raises one (log entry 8); an empty type is safe, since it forbids nothing the spec allows. -/
inductive Fault where
deriving DecidableEq, Repr

/-- Why a step has no meaning. -/
inductive Refusal where
  /-- Raised by `exec` for an instruction with no meaning yet; safe (the model stops). No arm raises it. -/
  | notModelled (mnemonic : String)
  /-- Raised by `clockEdge` for an edge with `rst = 0` before the first reset edge (R42, U5); safe (the spec asks for it). -/
  | noResetEdge
deriving DecidableEq, Repr

/-- The machine right after a reset edge (R41), the host presenting nothing (log entry 2).
`L`, `R`, `C`, `D` and `RK` are unspecified: they hold the free values of draw 0 (log entry 3). -/
def State.reset : State :=
  { st := .idle
    cnt := 0
    dec := false
    chain := false
    keyValid := false
    doutValid := false
    done := false
    err := .ok
    L := Config.unspecL 0
    R := Config.unspecR 0
    C := Config.unspecC 0
    D := Config.unspecD 0
    DOUT := 0x0000000000000000#64
    RK := Config.unspecRK 0
    ports := Ports.quiet
    upcoming := []
    booted := true
    draws := 1 }

end Sys2Proof.Machine
end

