-- ==== Sys2Proof/Machine/Flags.lean ====
section
/-!
DEFINITION. The status flags and the sequencing position (10_state.md R22 to R30, R38, R39): their codes, and how an edge computes them.
-/

namespace Sys2Proof.Machine

/-- The encoding of `st` (R23). -/
def Phase.code : Phase → BitVec 2
  | .idle => 0b00#2
  | .ks => 0b01#2
  | .rnd => 0b10#2
  | .fin => 0b11#2

/-- The encoding of `err` (R30, R241). -/
def ErrCode.code : ErrCode → BitVec 2
  | .ok => 0b00#2
  | .illegalCmd => 0b01#2
  | .noKey => 0b10#2

/-- `cnt == 15`: the edge leaves KS or RND (R158, R198). -/
def lastStep (cnt : Counter) : Bool := decide (cnt = 15)

/-- `cnt` after a KS or RND edge: back to 0 on leaving, else advanced by one (R24, R158, R198). -/
def nextCnt (cnt : Counter) : Counter := if lastStep cnt then 0 else cnt + 1

/-- `st` after a KS edge (R158). -/
def phaseAfterKs (cnt : Counter) (chain : Bool) : Phase :=
  if lastStep cnt then (if chain then .rnd else .idle) else .ks

/-- `st` after a RND edge (R198). -/
def phaseAfterRnd (cnt : Counter) : Phase := if lastStep cnt then .fin else .rnd

/-- `key_valid` after a KS edge: set by the sixteenth (R27, R158). -/
def keyValidAfterKs (cnt : Counter) (keyValid : Bool) : Bool := lastStep cnt || keyValid

/-- `done` after a KS edge: set by the sixteenth of a schedule that stands alone (R29, R158). -/
def doneAfterKs (cnt : Counter) (chain : Bool) : Bool := lastStep cnt && !chain

/-- A command completes at its accept edge with outcome e: `err <- e`, `done <- 1`, nothing else (R29, R244). -/
def completeWith (e : ErrCode) (s : State) : State := { s with err := e, done := true }

end Sys2Proof.Machine
end

