-- ==== Sys2Proof/WellFormed.lean ====
section
/-!
DEFINITION. Which commands are well formed.
Operand widths are in the types (R108, R245), so every `Instr` is well formed.
The checks left are those of the host-script form of a command (R87): an operand the command does not read is driven as 0.
-/

namespace Sys2Proof

/-- Whether a command with this opcode reads `key_in` (R82, column "operands read"). -/
def Opcode.readsKey (op : Opcode) : Bool :=
  op == 0b001#3 || op == 0b110#3 || op == 0b111#3

/-- Whether a command with this opcode reads `data_in` (R82, column "operands read"). -/
def Opcode.readsData (op : Opcode) : Bool :=
  op == 0b010#3 || op == 0b011#3 || op == 0b110#3 || op == 0b111#3

/-- The command with every operand it does not read driven as 0 (R87). -/
def Command.canonical (c : Command) : Command :=
  { op := c.op
    key := if Opcode.readsKey c.op then c.key else 0
    data := if Opcode.readsData c.op then c.data else 0 }

/-- A command is in host-script form when its unread operands are 0 (R87). -/
def Command.wellFormed (c : Command) : Bool :=
  (Opcode.readsKey c.op || c.key == 0) && (Opcode.readsData c.op || c.data == 0)

/-- Every decoded command is well formed: any 64-bit key and any 64-bit block are valid (R156, R247). -/
def Instr.wellFormed : Instr → Bool
  | .nop => true
  | .ldkey _ => true
  | .enc _ => true
  | .dec _ => true
  | .rsvd4 => true
  | .rsvd5 => true
  | .enck _ _ => true
  | .deck _ _ => true

end Sys2Proof
end

