-- ==== Sys2Proof/Decode.lean ====
section
/-!
DEFINITION. The decoder and the encoder of commands (30_encoding.md R80 to R86).
Every one of the eight opcodes decodes, so the decoder is total and rejects nothing (R84).
-/

namespace Sys2Proof

/-- The decoder: a pure function of `op`, by the opcode map (R82, R83). -/
def decode (c : Command) : Instr :=
  match c.op with
  | 0b000#3 => .nop
  | 0b001#3 => .ldkey c.key
  | 0b010#3 => .enc c.data
  | 0b011#3 => .dec c.data
  | 0b100#3 => .rsvd4
  | 0b101#3 => .rsvd5
  | 0b110#3 => .enck c.key c.data
  | 0b111#3 => .deck c.key c.data

/-- The opcode of a command, from the opcode map (R82). -/
def Instr.opcode : Instr → Opcode
  | .nop => 0b000#3
  | .ldkey _ => 0b001#3
  | .enc _ => 0b010#3
  | .dec _ => 0b011#3
  | .rsvd4 => 0b100#3
  | .rsvd5 => 0b101#3
  | .enck _ _ => 0b110#3
  | .deck _ _ => 0b111#3

/-- The key operand of a command, 0 where it reads none (R87). -/
def Instr.keyOperand : Instr → Block
  | .nop => 0
  | .ldkey k => k
  | .enc _ => 0
  | .dec _ => 0
  | .rsvd4 => 0
  | .rsvd5 => 0
  | .enck k _ => k
  | .deck k _ => k

/-- The block operand of a command, 0 where it reads none (R87). -/
def Instr.dataOperand : Instr → Block
  | .nop => 0
  | .ldkey _ => 0
  | .enc m => m
  | .dec m => m
  | .rsvd4 => 0
  | .rsvd5 => 0
  | .enck _ m => m
  | .deck _ m => m

/-- The encoder: the port values by which a host presents a command (R82, R87; log entry 7). -/
def encode (i : Instr) : Command :=
  { op := i.opcode, key := i.keyOperand, data := i.dataOperand }

/-- The command of an opcode-table word: bits 2..0 are `cmd_op`, and the operand ports carry 0 (log entry 6). -/
def tableWordCommand (nbits w : Nat) : Command :=
  { op := BitVec.ofNat 3 (w % 2 ^ nbits), key := 0, data := 0 }

/-- What the decoder reads from an opcode-table word (log entry 6). -/
def decodeTableWord (nbits w : Nat) : Option Instr :=
  some (decode (tableWordCommand nbits w))

end Sys2Proof
end

