-- ==== Sys2Proof/Machine/BitField.lean ====
section
/-!
DEFINITION. BitField primitives (40_bitfield.md R100 to R108): bit positions are 1..w, most significant first (R7).
-/

namespace Sys2Proof.Machine

/-- `bit(v, n, w) = v[w - n]`, bit position n of a w-bit field, 1 ≤ n ≤ w (R100; log entry 11). -/
def bit {w : Nat} (v : BitVec w) (n : Nat) : Bool :=
  v.getMsbD (n - 1)

/-- `bitRange(v, size, w, at)`: positions at - size + 1 .. at, right-aligned (R101). -/
def bitRange {w : Nat} (v : BitVec w) (size pos : Nat) : BitVec size :=
  v.extractLsb' (w - pos) size

/-- `permute(v, w, T)`: output position k is input position `T[k]` (R102). -/
def permute {w m : Nat} (T : Vector Nat m) (v : BitVec w) : BitVec m :=
  BitVec.ofFnBE fun k => bit v T[k]

/-- The upper 32 bits, positions 1..32 (R104). -/
def hi32 (v : Block) : Half := v.extractLsb' 32 32

/-- The lower 32 bits, positions 33..64 (R104). -/
def lo32 (v : Block) : Half := v.extractLsb' 0 32

/-- The upper 28 bits, positions 1..28 (R105). -/
def hi28 (v : KeyPlus) : KeyHalf := v.extractLsb' 28 28

/-- The lower 28 bits, positions 29..56 (R105). -/
def lo28 (v : KeyPlus) : KeyHalf := v.extractLsb' 0 28

/-- `a ‖ b` of two 32-bit values: a in bits 63..32 (R104). -/
def join32 (a b : Half) : Block := a ++ b

/-- `c ‖ d` of two 28-bit values: c in bits 55..28 (R105). -/
def join28 (c d : KeyHalf) : KeyPlus := c ++ d

/-- `rotl28(x, s)`: circular rotation toward position 1 (R106). -/
def rotl28 (x : KeyHalf) (s : Nat) : KeyHalf := x.rotateLeft s

end Sys2Proof.Machine
end

