-- ==== Sys2Proof/Machine/KeySchedule.lean ====
section
/-!
DEFINITION. The key schedule as a pure function (42_key_schedule.md R150 to R157).
-/

namespace Sys2Proof.Machine

/-- Step 1: the 56-bit reduced key, `permute(K, 64, PC-1)` (R151). -/
def keyPlus (k : Block) : KeyPlus := permute tablePC1 k

/-- `C_i` and `D_i` of a key: the halves of PC-1(K), each rotated left by s_1, .., s_i in turn (R152). -/
def keyHalves (k : Block) : Nat → KeyHalf × KeyHalf
  | 0 => (hi28 (keyPlus k), lo28 (keyPlus k))
  | i + 1 =>
    (rotl28 (keyHalves k i).1 (shiftAmount (i + 1)), rotl28 (keyHalves k i).2 (shiftAmount (i + 1)))

/-- Step 4: `permute(C ‖ D, 56, PC-2)` (R154). -/
def roundKeyOf (c d : KeyHalf) : RoundKey :=
  permute tablePC2 (join28 c d)

/-- `KS(K) = (K_1, .., K_16)` (R150, R153). -/
def keySchedule (k : Block) : RoundKeys :=
  Vector.ofFn fun j => roundKeyOf (keyHalves k (j + 1)).1 (keyHalves k (j + 1)).2

end Sys2Proof.Machine
end

