-- ==== Sys2Proof/Machine/RoundFunction.lean ====
section
/-!
DEFINITION. The round function F (43_round_function.md R170 to R179).
-/

namespace Sys2Proof.Machine

/-- Expansion: `permute(R, 32, E)` (R171). -/
def expand (r : Half) : RoundKey := permute tableE r

/-- Group j of T: positions 6j+1 .. 6j+6 (R173). -/
def group (t : RoundKey) (j : Fin 8) : BitVec 6 := bitRange t 6 (6 * j + 6)

/-- The row index `B<1> ‖ B<6>` (R174). -/
def rowIndex (b : BitVec 6) : BitVec 2 := BitVec.ofBool (bit b 1) ++ BitVec.ofBool (bit b 6)

/-- The column index `B<2> ‖ B<3> ‖ B<4> ‖ B<5>` (R174). -/
def colIndex (b : BitVec 6) : BitVec 4 := bitRange b 4 5

/-- Lane j of the substitution: `Y_j = SBOX[j][row_j][col_j]` (R175, R178). -/
def lane (t : RoundKey) (j : Fin 8) : BitVec 4 :=
  sboxAt j (rowIndex (group t j)) (colIndex (group t j))

/-- `S = Y_0 ‖ Y_1 ‖ .. ‖ Y_7` (R176). -/
def substitute (t : RoundKey) : Half :=
  lane t 0 ++ lane t 1 ++ lane t 2 ++ lane t 3 ++ lane t 4 ++ lane t 5 ++ lane t 6 ++ lane t 7

/-- `F(R, K) = permute(S, 32, P)` with S the substitution of `E(R) ^ K` (R170, R172, R177). -/
def roundFunction (r : Half) (k : RoundKey) : Half :=
  permute tableP (substitute (expand r ^^^ k))

end Sys2Proof.Machine
end

