-- ==== Sys2Proof/Machine/Cipher.lean ====
section
/-!
DEFINITION. The cipher as pure functions (44_cipher.md R190 to R195).
-/

namespace Sys2Proof.Machine

/-- Initial step: `L_0` and `R_0`, the halves of IP(M) (R191). -/
def initialHalves (m : Block) : Half × Half :=
  (hi32 (permute tableIP m), lo32 (permute tableIP m))

/-- One Feistel round: `L' = R`, `R' = L ^ F(R, k)` (R192). -/
def feistelRound (lr : Half × Half) (k : RoundKey) : Half × Half :=
  (lr.2, lr.1 ^^^ roundFunction lr.2 k)

/-- `L_i` and `R_i`: the halves after the first i rounds with round keys k (R190). -/
def blockHalves (k : RoundKeys) (m : Block) (i : Nat) : Half × Half :=
  (k.toList.take i).foldl feistelRound (initialHalves m)

/-- Final step: `permute(R ‖ L, 64, IP^-1)` (R194). -/
def finalBlock (l r : Half) : Block :=
  permute tableIPinv (join32 r l)

/-- `Crypt(k, M)`, the 18-step block transform (R190). -/
def crypt (k : RoundKeys) (m : Block) : Block :=
  finalBlock (blockHalves k m 16).1 (blockHalves k m 16).2

/-- The round-key sequence in the order of a direction: forward, or `rev` (R153, R193). -/
def keyOrder (dec : Bool) (k : RoundKeys) : RoundKeys :=
  if dec then k.reverse else k

/-- The source's `Encrypt(roundKeys, block)` (R195). -/
def encrypt (k : RoundKeys) (m : Block) : Block := crypt k m

/-- The source's `Decrypt(key, block)` (R195). -/
def decrypt (key m : Block) : Block := crypt (keySchedule key).reverse m

end Sys2Proof.Machine
end

