-- ==== Sys2Proof/Machine/Operands.lean ====
section
/-!
DEFINITION. How an edge reads its operands: the command ports (30_encoding.md R80, R81) and the round-key store (20_memory.md R62, R63).
-/

namespace Sys2Proof.Machine

/-- The command on the ports: K and M are taken whole, with no extension, shift or scaling (R80, R81). -/
def Ports.command (p : Ports) : Command :=
  { op := p.cmdOp, key := p.keyIn, data := p.dataIn }

/-- The ports of a host presenting a command, `rk_sel` as given (R80, R87). -/
def Ports.present (c : Command) (rkSel : BitVec 4) : Ports :=
  { rst := false, cmdValid := true, cmdOp := c.op, keyIn := c.key, dataIn := c.data, rkSel := rkSel }

/-- The round number `zext_5(cnt) + 1` (R24). -/
def roundNumber (cnt : Counter) : Nat := cnt.toNat + 1

/-- `RK[cnt + 1]` if `dec = 0`, `RK[16 - cnt]` if `dec = 1` (R62, R193). -/
def selectKey (rk : RoundKeys) (dec : Bool) (cnt : Counter) : RoundKey :=
  if dec then rk[15 - cnt.toNat] else rk[cnt.toNat]

/-- `RK[i] <- v` with i = `zext_5(cnt) + 1`: one whole entry (R61). -/
def writeKey (rk : RoundKeys) (cnt : Counter) (v : RoundKey) : RoundKeys :=
  rk.set cnt.toNat v

end Sys2Proof.Machine
end

