-- ==== Sys2Proof/Machine/Ops.lean ====
section
/-!
DEFINITION. The operations every edge is made of: raising an error, starting a key schedule or a block, the edge rules of the
four FSM states, the reset edge, command acceptance, the priority of an edge, and the host's next port values.
A register an edge does not assign keeps its value, except `done`, which takes 0 (00_scope.md R10).
-/

namespace Sys2Proof.Machine

/-- `raise E` (R12, R249): the edge completes the command with error E and changes nothing else.
It is what the engine has in place of taking an exception; there is no return (R250). -/
def raise (e : ErrCode) (s : State) : State := completeWith e s

/-- The key part of an accept edge: C_0 and D_0 of the key, `key_valid <- 0`, on to KS (R214, R217, R218). -/
def startKeySchedule (k : Block) (chain : Bool) (s : State) : State :=
  { s with
    C := hi28 (keyPlus k)
    D := lo28 (keyPlus k)
    keyValid := false
    chain := chain
    cnt := 0
    st := .ks
    err := .ok
    done := false }

/-- The block part of an accept edge: L_0 and R_0 of the block, the direction, `dout_valid <- 0` (R215 to R218). -/
def loadBlock (m : Block) (dec : Bool) (s : State) : State :=
  { s with
    L := (initialHalves m).1
    R := (initialHalves m).2
    dec := dec
    doutValid := false }

/-- The sequencing part of an accept edge that goes straight to the rounds (R215, R216). -/
def startRounds (s : State) : State :=
  { s with cnt := 0, st := .rnd, err := .ok, done := false }

/-- An edge in IDLE that accepts no command: only `done <- 0` (R211). -/
def idleEdge (s : State) : State := { s with done := false }

/-- KS edge: one key-schedule round (R158). -/
def ksEdge (s : State) : State :=
  { s with
    C := rotl28 s.C (shiftAmount (roundNumber s.cnt))
    D := rotl28 s.D (shiftAmount (roundNumber s.cnt))
    RK := writeKey s.RK s.cnt
      (roundKeyOf (rotl28 s.C (shiftAmount (roundNumber s.cnt))) (rotl28 s.D (shiftAmount (roundNumber s.cnt))))
    keyValid := keyValidAfterKs s.cnt s.keyValid
    cnt := nextCnt s.cnt
    st := phaseAfterKs s.cnt s.chain
    done := doneAfterKs s.cnt s.chain }

/-- RND edge: one Feistel round (R198). -/
def rndEdge (s : State) : State :=
  { s with
    L := (feistelRound (s.L, s.R) (selectKey s.RK s.dec s.cnt)).1
    R := (feistelRound (s.L, s.R) (selectKey s.RK s.dec s.cnt)).2
    cnt := nextCnt s.cnt
    st := phaseAfterRnd s.cnt
    done := false }

/-- FIN edge: the final permutation (R199). -/
def finEdge (s : State) : State :=
  { s with
    DOUT := finalBlock s.L s.R
    doutValid := true
    done := true
    st := .idle }

/-- The edge of the present FSM state when no command is taken (R210). -/
def quietEdge (s : State) : State :=
  match s.st with
  | .idle => idleEdge s
  | .ks => ksEdge s
  | .rnd => rndEdge s
  | .fin => finEdge s

/-- The edge at which a host presents a command with `rst = 0`. In IDLE it is the accept edge, whose effect is given (R211).
In any other state the command is not sampled, and the edge is that state's own (R212; log entry 5). -/
def accept (effect : State → State) (s : State) : Host.Outcome State Fault Refusal :=
  if s.st = .idle then .next (effect s) else .next (quietEdge s)

/-- Reset edge (R270). L, R, C, D and RK are drawn: their values are free (R41, log entry 3). -/
def resetEdge (s : State) : State :=
  { s with
    st := .idle
    cnt := 0
    dec := false
    chain := false
    keyValid := false
    doutValid := false
    done := false
    err := .ok
    DOUT := 0x0000000000000000#64
    L := Config.unspecL s.draws
    R := Config.unspecR s.draws
    C := Config.unspecC s.draws
    D := Config.unspecD s.draws
    RK := Config.unspecRK s.draws
    booted := true
    draws := s.draws + 1 }

/-- One rising edge, its conditions in the order of priority of R248, with `run` the meaning of a command (R210).
Before the first reset edge the model refuses an edge with `rst = 0` (R42, log entry 4). -/
def clockEdge (run : Instr → State → Host.Outcome State Fault Refusal) (s : State) :
    Host.Outcome State Fault Refusal :=
  if s.ports.rst then .next (resetEdge s)
  else if !s.booted then .refused .noResetEdge
  else if s.st = .idle ∧ s.ports.cmdValid = true then run (decode s.ports.command) s
  else .next (quietEdge s)

/-- The host's port values of the next cycle (R21, log entry 1). -/
def driveNext (s : State) : State :=
  { s with ports := s.upcoming.headD Ports.quiet, upcoming := s.upcoming.tail }

/-- The next cycle begins: the outcome of an edge with the host's next port values on the ports. -/
def nextCycle : Host.Outcome State Fault Refusal → Host.Outcome State Fault Refusal
  | .next t => .next (driveNext t)
  | .fault f => .fault f
  | .refused r => .refused r

/-- The state with the host driving p in this cycle. -/
def withPorts (p : Ports) (s : State) : State := { s with ports := p }

/-- The engine ready for a command and the host presenting c: the very next edge accepts it (R211; log entry 2). -/
def presentCommand (c : Command) (s : State) : State :=
  { s with st := .idle, booted := true, ports := Ports.present c s.ports.rkSel }

end Sys2Proof.Machine
end

