-- ==== Sys2Proof/Machine/BlockCommands.lean ====
section
/-!
DEFINITION. The commands that use the stored round keys: ENC and DEC at their accept edge (45_commands.md R215, R216).
The edges after it are `rndEdge` and `finEdge`.
-/

namespace Sys2Proof.Machine

/-- ENC M: NO_KEY with no loaded key, else start the rounds in forward order (R215, R243). -/
def execEnc (m : Block) (s : State) : Host.Outcome State Fault Refusal :=
  accept (fun s => if s.keyValid then startRounds (loadBlock m false s) else raise .noKey s) s

/-- DEC M: NO_KEY with no loaded key, else start the rounds in reversed order (R216, R243). -/
def execDec (m : Block) (s : State) : Host.Outcome State Fault Refusal :=
  accept (fun s => if s.keyValid then startRounds (loadBlock m true s) else raise .noKey s) s

end Sys2Proof.Machine
end

