-- ==== Sys2Proof/Machine/ControlCommands.lean ====
section
/-!
DEFINITION. The commands without a datapath effect: NOP and the reserved opcodes (45_commands.md R213, R219).
-/

namespace Sys2Proof.Machine

/-- NOP: `err <- OK`, `done <- 1` (R213). -/
def execNop (s : State) : Host.Outcome State Fault Refusal :=
  accept (fun s => completeWith .ok s) s

/-- Reserved opcode 100: raise ILLEGAL_CMD (R219, R242). -/
def execRsvd4 (s : State) : Host.Outcome State Fault Refusal :=
  accept (fun s => raise .illegalCmd s) s

/-- Reserved opcode 101: raise ILLEGAL_CMD (R219, R242). -/
def execRsvd5 (s : State) : Host.Outcome State Fault Refusal :=
  accept (fun s => raise .illegalCmd s) s

end Sys2Proof.Machine
end

