-- ==== Sys2Proof/Machine/KeyCommands.lean ====
section
/-!
DEFINITION. The commands that load a key: LDKEY, ENCK and DECK at their accept edge (45_commands.md R214, R217, R218).
The edges after it are `ksEdge`, `rndEdge` and `finEdge`.
-/

namespace Sys2Proof.Machine

/-- LDKEY K: start a key schedule that stands alone (R214). -/
def execLdkey (k : Block) (s : State) : Host.Outcome State Fault Refusal :=
  accept (fun s => startKeySchedule k false s) s

/-- ENCK K, M: load the block forward and start a key schedule that continues with it (R217). -/
def execEnck (k m : Block) (s : State) : Host.Outcome State Fault Refusal :=
  accept (fun s => startKeySchedule k true (loadBlock m false s)) s

/-- DECK K, M: load the block reversed and start a key schedule that continues with it (R218). -/
def execDeck (k m : Block) (s : State) : Host.Outcome State Fault Refusal :=
  accept (fun s => startKeySchedule k true (loadBlock m true s)) s

end Sys2Proof.Machine
end

