-- ==== Sys2Proof/Machine/Dispatch.lean ====
section
/-!
DEFINITION. The meaning of each command: the edge at which the host presents it (45_commands.md R211 to R219).
-/

namespace Sys2Proof.Machine

def exec (i : Instr) (s : State) : Host.Outcome State Fault Refusal :=
  match i with
  | .nop => Sys2Proof.Machine.execNop s
  | .ldkey k => Sys2Proof.Machine.execLdkey k s
  | .enc m => Sys2Proof.Machine.execEnc m s
  | .dec m => Sys2Proof.Machine.execDec m s
  | .rsvd4 => Sys2Proof.Machine.execRsvd4 s
  | .rsvd5 => Sys2Proof.Machine.execRsvd5 s
  | .enck k m => Sys2Proof.Machine.execEnck k m s
  | .deck k m => Sys2Proof.Machine.execDeck k m s

end Sys2Proof.Machine
end

