-- ==== Sys2Proof/Machine/Step.lean ====
section
/-!
DEFINITION. One step: one rising edge of `clk` (45_commands.md R210), then the host's port values of the next cycle.
-/

namespace Sys2Proof.Machine

/-- One rising edge (R210). -/
def step (s : State) : Host.Outcome State Fault Refusal :=
  nextCycle (clockEdge exec s)

/-- The state in which the host presents the command of an opcode-table word to an engine that is ready for it (log entry 2). -/
def State.withFetchWord (s : State) (nbits w : Nat) : State :=
  presentCommand (tableWordCommand nbits w) s

end Sys2Proof.Machine
end

