-- ==== Sys2Proof/Machine/Outputs.lean ====
section
/-!
DEFINITION. The output ports (10_state.md R22): each is a function of the present state, and of `rk_sel` for `rk_out`.
-/

namespace Sys2Proof.Machine

/-- The values on the output ports in one cycle (R22). -/
structure Outputs where
  /-- `cmd_ready`. -/
  cmdReady : Bool
  /-- `done`. -/
  done : Bool
  /-- `key_valid`. -/
  keyValid : Bool
  /-- `dout_valid`. -/
  doutValid : Bool
  /-- `err[1:0]`. -/
  err : BitVec 2
  /-- `data_out[63:0]`. -/
  dataOut : Block
  /-- `rk_out[47:0]`. -/
  rkOut : RoundKey
  /-- `trc_st[1:0]`. -/
  trcSt : BitVec 2
  /-- `trc_cnt[3:0]`. -/
  trcCnt : Counter
  /-- `trc_l[31:0]`. -/
  trcL : Half
  /-- `trc_r[31:0]`. -/
  trcR : Half
deriving DecidableEq, Repr

/-- The output ports of the present cycle (R22, R63). -/
def outputs (s : State) : Outputs :=
  { cmdReady := decide (s.st = .idle)
    done := s.done
    keyValid := s.keyValid
    doutValid := s.doutValid
    err := s.err.code
    dataOut := s.DOUT
    rkOut := s.RK[s.ports.rkSel.toNat]
    trcSt := s.st.code
    trcCnt := s.cnt
    trcL := s.L
    trcR := s.R }

end Sys2Proof.Machine
end

