-- ==== Sys2Proof/Machine/HostScript.lean ====
section
/-!
DEFINITION. Host scripts (30_encoding.md R87, R88; end of a run 45_commands.md R221): host-side actions, not commands.
The driver sets the ports of each cycle itself, the last one included, so what it drives never comes from `upcoming`
(log entry 14).
-/

namespace Sys2Proof.Machine

/-- One host action: a command line (R87), or WAIT, READRK i (i = index + 1) or RESET (R88). -/
inductive HostAction where
  /-- Present a command until its accept edge. -/
  | command (i : Instr)
  /-- Hold `cmd_valid = 0` until the cycle in which `done = 1`. -/
  | wait
  /-- Drive `rk_sel` for one cycle and sample `rk_out`. -/
  | readRk (sel : BitVec 4)
  /-- Drive `rst = 1` for one edge. -/
  | reset
deriving DecidableEq, Repr

/-- The pseudo-instructions that stand for commands (R88). -/
inductive Pseudo where
  /-- KEYSCHED K. -/
  | keysched (k : Block)
  /-- ENCRYPT K, M. -/
  | encrypt (k m : Block)
  /-- DECRYPT K, C. -/
  | decrypt (k c : Block)
deriving DecidableEq, Repr

/-- The expansion of a pseudo-instruction (R88). -/
def Pseudo.expand : Pseudo → List HostAction
  | .keysched k =>
    [.command (.ldkey k), .wait] ++ (List.range 16).map fun j => .readRk (BitVec.ofNat 4 j)
  | .encrypt k m => [.command (.enck k m), .wait]
  | .decrypt k c => [.command (.deck k c), .wait]

/-- The mnemonic of a command line (R87). -/
def mnemonicOf : Instr → String
  | .nop => "NOP"
  | .ldkey _ => "LDKEY"
  | .enc _ => "ENC"
  | .dec _ => "DEC"
  | .rsvd4 => "RSVD4"
  | .rsvd5 => "RSVD5"
  | .enck _ _ => "ENCK"
  | .deck _ _ => "DECK"

/-- A host script under way: the engine, the actions still to do, and the round keys sampled so far, oldest first. -/
structure HostRun where
  /-- The engine and its ports. -/
  state : State
  /-- The actions not yet finished. -/
  todo : List HostAction
  /-- The values of `rk_out` that READRK sampled. -/
  samples : List RoundKey
deriving DecidableEq, Repr

/-- The ports of a host that presents no command, `rk_sel` as given. -/
def Ports.hold (rkSel : BitVec 4) : Ports := { Ports.quiet with rkSel := rkSel }

/-- One edge of a host script with p on the ports, the actions left and the samples taken.
In the cycle after it the driver presents nothing yet and leaves `rk_sel` where p had it (DESIGN CHOICE, log entry 14). -/
def HostRun.drive (p : Ports) (todo : List HostAction) (samples : List RoundKey) (s : State) :
    Host.Outcome HostRun Fault Refusal :=
  match step (withPorts p s) with
  | .next t => .next { state := withPorts (Ports.hold p.rkSel) t, todo := todo, samples := samples }
  | .fault f => .fault f
  | .refused r => .refused r

/-- A script has ended: every line accepted, the last command complete, and `st = IDLE` (R221). -/
def HostRun.ended (h : HostRun) : Bool := h.todo.isEmpty && decide (h.state.st = .idle)

/-- One cycle of a host script (R87, R88). A command line lasts until the edge that accepts it.
DESIGN CHOICE (log entry 14), where R87, R88 and R221 leave the host free:
the line after a command line starts in the cycle right after the accept edge, so a command that follows one without a WAIT
stands on the ports while the engine works on the first, and is taken at the first ready edge (R275);
a WAIT whose `done = 1` has come takes no cycle of its own;
with no line left the host holds `cmd_valid = 0` until the last command completes;
`rk_sel` stays where the last READRK put it (before one, where it was when the script began), on a RESET line too. -/
def HostRun.cycle (h : HostRun) : Host.Outcome HostRun Fault Refusal :=
  match h.todo with
  | [] =>
    if h.ended then .next h
    else HostRun.drive (Ports.hold h.state.ports.rkSel) [] h.samples h.state
  | .command i :: rest =>
    HostRun.drive (Ports.present (encode i) h.state.ports.rkSel)
      (if h.state.st = .idle then rest else h.todo) h.samples h.state
  | .wait :: rest =>
    if h.state.done then .next { h with todo := rest }
    else HostRun.drive (Ports.hold h.state.ports.rkSel) h.todo h.samples h.state
  | .readRk sel :: rest =>
    HostRun.drive (Ports.hold sel) rest (h.samples ++ [(outputs (withPorts (Ports.hold sel) h.state)).rkOut]) h.state
  | .reset :: rest =>
    HostRun.drive { Ports.hold h.state.ports.rkSel with rst := true } rest h.samples h.state

/-- At most n cycles of a host script. -/
def HostRun.run : Nat → HostRun → Host.Outcome HostRun Fault Refusal
  | 0, h => .next h
  | n + 1, h =>
    match h.cycle with
    | .next h' => h'.run n
    | .fault f => .fault f
    | .refused r => .refused r

end Sys2Proof.Machine
end

