-- ==== Sys2Proof/Safety.lean ====
section
/-!
DEFINITION. The terms claims about DES-CORE are stated in: runs, what the host drives in a later cycle, latencies, and invariants.
-/

namespace Sys2Proof.Machine

/-- n steps of the machine. -/
def steps (n : Nat) (s : State) : Host.Outcome State Fault Refusal := Host.Core.run Sys2Proof.core n s

/-- The port values the host drives j cycles from now (log entry 1). -/
def portsAt (s : State) (j : Nat) : Ports := (s.ports :: s.upcoming).getD j Ports.quiet

/-- The host does not reset the engine at any of the next n edges. -/
def NoResetFor (n : Nat) (s : State) : Prop := ∀ j, j < n → (portsAt s j).rst = false

/-- The engine has been reset and waits for a command: `cmd_ready = 1` (R22, R273). -/
def Ready (s : State) : Prop := s.booted = true ∧ s.st = .idle

/-- The host presents the command i in this cycle (R80, R211). -/
def Presents (i : Instr) (s : State) : Prop :=
  s.ports.rst = false ∧ s.ports.cmdValid = true ∧ decode s.ports.command = i

/-- The error code an accept edge writes (R244). -/
def acceptErr (keyValid : Bool) : Instr → ErrCode
  | .nop => .ok
  | .ldkey _ => .ok
  | .enc _ => if keyValid then .ok else .noKey
  | .dec _ => if keyValid then .ok else .noKey
  | .rsvd4 => .illegalCmd
  | .rsvd5 => .illegalCmd
  | .enck _ _ => .ok
  | .deck _ _ => .ok

/-- Edges from the accept edge to the completing edge, both counted (R282). -/
def latency (keyValid : Bool) : Instr → Nat
  | .nop => 1
  | .ldkey _ => 17
  | .enc _ => if keyValid then 18 else 1
  | .dec _ => if keyValid then 18 else 1
  | .rsvd4 => 1
  | .rsvd5 => 1
  | .enck _ _ => 34
  | .deck _ _ => 34

/-- The key a command loads, if it loads one (R82). -/
def loadedKey : Instr → Option Block
  | .nop => none
  | .ldkey k => some k
  | .enc _ => none
  | .dec _ => none
  | .rsvd4 => none
  | .rsvd5 => none
  | .enck k _ => some k
  | .deck k _ => some k

/-- The direction and block of a command that processes one (R82): true is the reversed key order. -/
def blockOperation : Instr → Option (Bool × Block)
  | .nop => none
  | .ldkey _ => none
  | .enc m => some (false, m)
  | .dec m => some (true, m)
  | .rsvd4 => none
  | .rsvd5 => none
  | .enck _ m => some (false, m)
  | .deck _ m => some (true, m)

/-- The command taken at this edge, if one is (R210, R211). -/
def accepted (s : State) : Option Instr :=
  if s.ports.rst = false ∧ s.st = .idle ∧ s.ports.cmdValid = true then some (decode s.ports.command) else none

/-- This edge completes a command (R29). -/
def Completes (s : State) : Prop :=
  s.ports.rst = false ∧
    ((∃ i, accepted s = some i ∧ (i = .nop ∨ acceptErr s.keyValid i ≠ .ok)) ∨
      (s.st = .ks ∧ s.cnt = 15 ∧ s.chain = false) ∨ s.st = .fin)

/-- How the control registers of an engine stand to one another (R27, R28, R29, R44, R240). -/
def ControlInv (s : State) : Prop :=
  (s.st = .idle ∨ s.st = .fin → s.cnt = 0) ∧
  (s.st = .ks → s.keyValid = false) ∧
  (s.st = .rnd ∨ s.st = .fin → s.keyValid = true) ∧
  (s.st = .rnd ∨ s.st = .fin ∨ (s.st = .ks ∧ s.chain = true) → s.doutValid = false) ∧
  (s.done = true → s.st = .idle) ∧
  (s.st ≠ .idle → s.err = .ok)

/-- The round-key store holds, or is being filled with, the schedule of the key k (R45, R158). -/
def KeyIs (k : Block) (s : State) : Prop :=
  (s.keyValid = true → s.RK = keySchedule k) ∧
  (s.st = .ks →
    (s.C, s.D) = keyHalves k s.cnt.toNat ∧
      ∀ j : Fin 16, j.val < s.cnt.toNat → s.RK[j] = (keySchedule k)[j])

/-- The part of the host's port values that timing may depend on (R283). -/
def Ports.control (p : Ports) : Bool × Bool × Opcode := (p.rst, p.cmdValid, p.cmdOp)

/-- Two states that agree on everything timing may depend on (R283): control registers, and control ports in every cycle. -/
def SameTiming (s t : State) : Prop :=
  s.st = t.st ∧ s.cnt = t.cnt ∧ s.chain = t.chain ∧ s.keyValid = t.keyValid ∧ s.doutValid = t.doutValid ∧
  s.done = t.done ∧ s.err = t.err ∧ s.booted = t.booted ∧
  s.ports.control = t.ports.control ∧ s.upcoming.map Ports.control = t.upcoming.map Ports.control

/-- Two states that agree but for registers no result may depend on (R43): L and R with no block in work,
C and D outside a key schedule, RK entries not yet written by a complete or running schedule, and the model's draw index. -/
def SameResults (s t : State) : Prop :=
  s.st = t.st ∧ s.cnt = t.cnt ∧ s.dec = t.dec ∧ s.chain = t.chain ∧ s.keyValid = t.keyValid ∧
  s.doutValid = t.doutValid ∧ s.done = t.done ∧ s.err = t.err ∧ s.DOUT = t.DOUT ∧
  s.ports = t.ports ∧ s.upcoming = t.upcoming ∧ s.booted = t.booted ∧
  (s.keyValid = true ∨ s.st = .rnd → s.RK = t.RK) ∧
  (s.st = .rnd ∨ s.st = .fin ∨ (s.st = .ks ∧ s.chain = true) → s.L = t.L ∧ s.R = t.R) ∧
  (s.st = .ks → s.C = t.C ∧ s.D = t.D ∧ ∀ j : Fin 16, j.val < s.cnt.toNat → s.RK[j] = t.RK[j])

/-- Two outcomes that are both next states, related by Rel, or the same stop. -/
def BothNext (Rel : State → State → Prop) :
    Host.Outcome State Fault Refusal → Host.Outcome State Fault Refusal → Prop
  | .next s, .next t => Rel s t
  | .fault _, _ => False
  | .refused r, .refused r' => r = r'
  | _, _ => False

end Sys2Proof.Machine
end

