-- ==== Sys2Proof/Certificates/Slice0/Obligations.lean ====
section
/-!
DEFINITION. The statements about DES-CORE that the provers settle, from the numbered rules of spec/.
-/

open Sys2Proof Sys2Proof.Machine

/-! Encoding (30_encoding.md) -/

/-- R82, R85 to R87: decoding what the encoder drives gives the command back, encoding what was decoded gives the port values
with unread operands at 0, and two port values decode alike exactly when they differ in unread operands only.
That the encoder drives unread operands as 0 is log entry 7. -/
def Obligations.DecodeAndEncodeAgree : Prop :=
  (∀ i : Instr, decode (encode i) = i) ∧
  (∀ c : Command, encode (decode c) = c.canonical) ∧
  (∀ c c' : Command, decode c = decode c' ↔ c.canonical = c'.canonical)

/-- R82: what each of the eight opcodes written out bit by bit decodes to, with any operands on the ports. -/
def Obligations.OpcodeWordsDecodeAsTheMapSays : Prop :=
  ∀ k m : Block,
    decode ⟨0b000#3, k, m⟩ = .nop ∧ decode ⟨0b001#3, k, m⟩ = .ldkey k ∧
    decode ⟨0b010#3, k, m⟩ = .enc m ∧ decode ⟨0b011#3, k, m⟩ = .dec m ∧
    decode ⟨0b100#3, k, m⟩ = .rsvd4 ∧ decode ⟨0b101#3, k, m⟩ = .rsvd5 ∧
    decode ⟨0b110#3, k, m⟩ = .enck k m ∧ decode ⟨0b111#3, k, m⟩ = .deck k m

/-- R85: the value of an operand port that the presented command does not read changes neither the step nor any output. -/
def Obligations.UnreadOperandsHaveNoEffect : Prop :=
  ∀ (s : State) (k m : Block),
    (s.ports.cmdOp = 0b000#3 ∨ s.ports.cmdOp = 0b100#3 ∨ s.ports.cmdOp = 0b101#3 →
      step (withPorts { s.ports with keyIn := k, dataIn := m } s) = step s ∧
      outputs (withPorts { s.ports with keyIn := k, dataIn := m } s) = outputs s) ∧
    (s.ports.cmdOp = 0b010#3 ∨ s.ports.cmdOp = 0b011#3 →
      step (withPorts { s.ports with keyIn := k } s) = step s ∧
      outputs (withPorts { s.ports with keyIn := k } s) = outputs s) ∧
    (s.ports.cmdOp = 0b001#3 →
      step (withPorts { s.ports with dataIn := m } s) = step s ∧
      outputs (withPorts { s.ports with dataIn := m } s) = outputs s)

/-! The step (45_commands.md section 1) -/

/-- R210, R211, R248: with `rst = 0` after a first reset, the step at which a command is presented is `exec` of that command.
In IDLE that is the command's accept edge (R211). In any other state the engine does not sample the command (R212), and that
`exec` is then the state's own edge, so that the statement holds there too, is the model's reading (log entry 5).
That the host's next port values then stand on the ports is the model's own (log entry 1). -/
def Obligations.StepRunsThePresentedCommand : Prop :=
  ∀ (s : State) (i : Instr), s.booted = true → Presents i s →
    ∃ t, exec i s = .next t ∧ step s = .next (driveNext t)

/-- R212: with `st ≠ IDLE` the command inputs are not sampled, so what is presented changes nothing, `err` included.
That `exec` of a busy state is that state's own edge is the model's reading (log entry 5). -/
def Obligations.BusyEngineSamplesNoCommand : Prop :=
  ∀ (s : State), s.st ≠ .idle →
    (∀ p q : Ports, p.rst = q.rst → step (withPorts p s) = step (withPorts q s)) ∧
    (∀ i j : Instr, exec i s = exec j s) ∧
    (∀ t, s.ports.rst = false → step s = .next t → t.err = s.err)

/-- R42, U5 (log entry 4): before the first reset edge the model refuses an edge with `rst = 0`.
After it, every edge has a next state, whatever the state and the inputs. -/
def Obligations.OnlyAStepBeforeTheFirstResetIsRefused : Prop :=
  (∀ s : State, s.booted = false → s.ports.rst = false → step s = .refused .noResetEdge) ∧
  (∀ s : State, s.booted = true ∨ s.ports.rst = true → ∃ t, step s = .next t ∧ t.booted = true)

/-- R211, R257: an IDLE edge with `cmd_valid = 0` changes no register but `done <- 0`.
That the next port values are the head of the host's coming ones (quiet when used up) is the model's own (log entry 1). -/
def Obligations.IdleEdgeOnlyClearsDone : Prop :=
  ∀ s : State, s.booted = true → s.ports.rst = false → s.st = .idle → s.ports.cmdValid = false →
    step s = .next { s with
      done := false, ports := s.upcoming.headD Ports.quiet, upcoming := s.upcoming.tail }

/-- R158: the KS edge.
That the next port values are the head of the host's coming ones (quiet when used up) is the model's own (log entry 1). -/
def Obligations.KsEdgeRunsOneKeyScheduleRound : Prop :=
  ∀ s : State, s.booted = true → s.ports.rst = false → s.st = .ks →
    step s = .next { s with
      C := rotl28 s.C (shiftAmount (s.cnt.toNat + 1))
      D := rotl28 s.D (shiftAmount (s.cnt.toNat + 1))
      RK := s.RK.set s.cnt.toNat (permute tablePC2
        (join28 (rotl28 s.C (shiftAmount (s.cnt.toNat + 1))) (rotl28 s.D (shiftAmount (s.cnt.toNat + 1)))))
      keyValid := if s.cnt = 15 then true else s.keyValid
      cnt := if s.cnt = 15 then 0 else s.cnt + 1
      st := if s.cnt = 15 then (if s.chain = true then .rnd else .idle) else .ks
      done := if s.cnt = 15 ∧ s.chain = false then true else false
      ports := s.upcoming.headD Ports.quiet
      upcoming := s.upcoming.tail }

/-- R198, R192, R193: the RND edge.
That the next port values are the head of the host's coming ones (quiet when used up) is the model's own (log entry 1). -/
def Obligations.RndEdgeRunsOneFeistelRound : Prop :=
  ∀ s : State, s.booted = true → s.ports.rst = false → s.st = .rnd →
    step s = .next { s with
      L := s.R
      R := s.L ^^^ roundFunction s.R (if s.dec = true then s.RK[15 - s.cnt.toNat] else s.RK[s.cnt.toNat])
      cnt := if s.cnt = 15 then 0 else s.cnt + 1
      st := if s.cnt = 15 then .fin else .rnd
      done := false
      ports := s.upcoming.headD Ports.quiet
      upcoming := s.upcoming.tail }

/-- R199, R194: the FIN edge, and what the output ports show in the cycle after it.
That the next port values are the head of the host's coming ones (quiet when used up) is the model's own (log entry 1). -/
def Obligations.FinEdgeDeliversTheResult : Prop :=
  ∀ s : State, s.booted = true → s.ports.rst = false → s.st = .fin →
    ∃ t, step s = .next t ∧
      t = { s with
        DOUT := permute tableIPinv (join32 s.R s.L)
        doutValid := true
        done := true
        st := .idle
        ports := s.upcoming.headD Ports.quiet
        upcoming := s.upcoming.tail } ∧
      (outputs t).dataOut = permute tableIPinv (join32 s.R s.L) ∧ (outputs t).doutValid = true ∧
      (outputs t).done = true ∧ (outputs t).cmdReady = true

/-- R270, R271, R248: an edge with `rst = 1`, whatever the state and the other inputs; it accepts no command.
Of L, R, C, D and RK nothing is said: they are unspecified after it.
That the next port values are the head of the host's coming ones (quiet when used up) is the model's own (log entry 1). -/
def Obligations.ResetEdgeGivesTheResetValues : Prop :=
  ∀ s : State, s.ports.rst = true →
    accepted s = none ∧
    ∃ t, step s = .next t ∧ t.st = .idle ∧ t.cnt = 0 ∧ t.dec = false ∧ t.chain = false ∧
      t.keyValid = false ∧ t.doutValid = false ∧ t.done = false ∧ t.err = .ok ∧
      t.DOUT = 0x0000000000000000#64 ∧
      t.ports = s.upcoming.headD Ports.quiet ∧ t.upcoming = s.upcoming.tail

/-- R41: the registers the spec gives a reset value, in the state after reset, and the output ports then. -/
def Obligations.ResetStateHasTheResetValues : Prop :=
  State.reset.st = .idle ∧ State.reset.cnt = 0 ∧ State.reset.dec = false ∧ State.reset.chain = false ∧
  State.reset.keyValid = false ∧ State.reset.doutValid = false ∧ State.reset.done = false ∧
  State.reset.err.code = 0b00#2 ∧ State.reset.DOUT = 0x0000000000000000#64 ∧
  (outputs State.reset).cmdReady = true ∧ (outputs State.reset).done = false ∧
  (outputs State.reset).keyValid = false ∧ (outputs State.reset).doutValid = false ∧
  (outputs State.reset).err = 0b00#2 ∧ (outputs State.reset).dataOut = 0 ∧
  (outputs State.reset).trcSt = 0b00#2 ∧ (outputs State.reset).trcCnt = 0

/-! Commands at their accept edge (45_commands.md section 2) -/

/-- R213: opcode 000, whatever the operands, is NOP, and what NOP writes. -/
def Obligations.NopWritesOkAndDone : Prop :=
  (∀ k m : Block, decode ⟨0b000#3, k, m⟩ = .nop) ∧
  ∀ s : State, s.st = .idle → exec .nop s = .next { s with err := .ok, done := true }

/-- R219, R242: the reserved opcodes 100 and 101 raise ILLEGAL_CMD (code 01) and change nothing else. -/
def Obligations.ReservedOpcodesRaiseIllegalCmd : Prop :=
  ErrCode.illegalCmd.code = 0b01#2 ∧
  (∀ k m : Block, decode ⟨0b100#3, k, m⟩ = .rsvd4 ∧ decode ⟨0b101#3, k, m⟩ = .rsvd5) ∧
  ∀ s : State, s.st = .idle →
    exec .rsvd4 s = .next { s with err := .illegalCmd, done := true } ∧
    exec .rsvd5 s = .next { s with err := .illegalCmd, done := true }

/-- R214: the accept edge of LDKEY. -/
def Obligations.LdkeyStartsAKeySchedule : Prop :=
  ∀ (s : State) (k : Block), s.st = .idle →
    exec (.ldkey k) s = .next { s with
      C := hi28 (permute tablePC1 k), D := lo28 (permute tablePC1 k)
      keyValid := false, chain := false, cnt := 0, st := .ks, err := .ok, done := false }

/-- R215: the accept edge of ENC with a loaded key. -/
def Obligations.EncStartsForwardRounds : Prop :=
  ∀ (s : State) (m : Block), s.st = .idle → s.keyValid = true →
    exec (.enc m) s = .next { s with
      L := hi32 (permute tableIP m), R := lo32 (permute tableIP m)
      dec := false, cnt := 0, st := .rnd, doutValid := false, err := .ok, done := false }

/-- R216: the accept edge of DEC with a loaded key. -/
def Obligations.DecStartsReversedRounds : Prop :=
  ∀ (s : State) (m : Block), s.st = .idle → s.keyValid = true →
    exec (.dec m) s = .next { s with
      L := hi32 (permute tableIP m), R := lo32 (permute tableIP m)
      dec := true, cnt := 0, st := .rnd, doutValid := false, err := .ok, done := false }

/-- R243, R215, R216: ENC and DEC with no loaded key raise NO_KEY (code 10) and change nothing else. -/
def Obligations.EncAndDecWithoutAKeyRaiseNoKey : Prop :=
  ErrCode.noKey.code = 0b10#2 ∧
  ∀ (s : State) (m : Block), s.st = .idle → s.keyValid = false →
    exec (.enc m) s = .next { s with err := .noKey, done := true } ∧
    exec (.dec m) s = .next { s with err := .noKey, done := true }

/-- R217: the accept edge of ENCK. -/
def Obligations.EnckLoadsKeyAndBlock : Prop :=
  ∀ (s : State) (k m : Block), s.st = .idle →
    exec (.enck k m) s = .next { s with
      C := hi28 (permute tablePC1 k), D := lo28 (permute tablePC1 k)
      L := hi32 (permute tableIP m), R := lo32 (permute tableIP m)
      dec := false, chain := true, keyValid := false, cnt := 0, st := .ks
      doutValid := false, err := .ok, done := false }

/-- R218: the accept edge of DECK. -/
def Obligations.DeckLoadsKeyAndBlock : Prop :=
  ∀ (s : State) (k m : Block), s.st = .idle →
    exec (.deck k m) s = .next { s with
      C := hi28 (permute tablePC1 k), D := lo28 (permute tablePC1 k)
      L := hi32 (permute tableIP m), R := lo32 (permute tableIP m)
      dec := true, chain := true, keyValid := false, cnt := 0, st := .ks
      doutValid := false, err := .ok, done := false }

/-- R249: an accept edge that raises an error E writes its code to `err` and 1 to `done`, and nothing else.
Every accept edge writes to `err` the code of its error, or OK where it raises none. -/
def Obligations.ErrorsArePrecise : Prop :=
  ∀ (i : Instr) (s : State), s.st = .idle →
    (acceptErr s.keyValid i ≠ .ok →
      exec i s = .next { s with err := acceptErr s.keyValid i, done := true }) ∧
    ∀ t, exec i s = .next t → t.err = acceptErr s.keyValid i

/-- The frame of every accept edge (R213 to R219): RK, DOUT, the ports and the model's own fields are unchanged; a command
that loads no key leaves C, D, chain and key_valid, and one that processes no block leaves L, R, dec and dout_valid. -/
def Obligations.AcceptEdgesKeepWhatTheyDoNotName : Prop :=
  ∀ (i : Instr) (s t : State), s.st = .idle → exec i s = .next t →
    t.RK = s.RK ∧ t.DOUT = s.DOUT ∧ t.ports = s.ports ∧ t.upcoming = s.upcoming ∧
    t.booted = s.booted ∧ t.draws = s.draws ∧
    (loadedKey i = none → t.C = s.C ∧ t.D = s.D ∧ t.chain = s.chain ∧ t.keyValid = s.keyValid) ∧
    (blockOperation i = none → t.L = s.L ∧ t.R = s.R ∧ t.dec = s.dec ∧ t.doutValid = s.doutValid) ∧
    (loadedKey i = none → blockOperation i = none → t.cnt = s.cnt ∧ t.st = .idle)

/-! Who writes which register: rules over every edge -/

/-- R220: the FSM transition table. -/
def Obligations.FsmFollowsTheTransitionTable : Prop :=
  ∀ s t : State, step s = .next t →
    (t.st, t.cnt) =
      if s.ports.rst = true then (.idle, 0)
      else match s.st with
        | .idle =>
          match accepted s with
          | some (.ldkey _) => (.ks, 0)
          | some (.enck _ _) => (.ks, 0)
          | some (.deck _ _) => (.ks, 0)
          | some (.enc _) => if s.keyValid = true then (.rnd, 0) else (.idle, s.cnt)
          | some (.dec _) => if s.keyValid = true then (.rnd, 0) else (.idle, s.cnt)
          | _ => (.idle, s.cnt)
        | .ks => if s.cnt = 15 then (if s.chain = true then (.rnd, 0) else (.idle, 0)) else (.ks, s.cnt + 1)
        | .rnd => if s.cnt = 15 then (.fin, 0) else (.rnd, s.cnt + 1)
        | .fin => (.idle, s.cnt)

/-- R244: `err` is written at every accept edge, by reset, and by no other edge. -/
def Obligations.ErrReportsTheLastAcceptedCommand : Prop :=
  ∀ s t : State, step s = .next t →
    t.err =
      if s.ports.rst = true then .ok
      else match accepted s with
        | some i => acceptErr s.keyValid i
        | none => s.err

/-- R29: `done` is 1 after an edge exactly when that edge completes a command. -/
def Obligations.DoneMarksCompletingEdges : Prop :=
  State.reset.done = false ∧
  ∀ s t : State, step s = .next t → (t.done = true ↔ Completes s) ∧ (outputs t).done = t.done

/-- R27: what clears and sets `key_valid`. -/
def Obligations.KeyValidIsClearedByKeyLoadsAndSetByTheLastKsEdge : Prop :=
  ∀ s t : State, step s = .next t →
    t.keyValid =
      if s.ports.rst = true then false
      else match accepted s with
        | some i => if loadedKey i = none then s.keyValid else false
        | none => if s.st = .ks ∧ s.cnt = 15 then true else s.keyValid

/-- R28: what clears and sets `dout_valid`. -/
def Obligations.DoutValidIsClearedByBlockCommandsAndSetByFin : Prop :=
  ∀ s t : State, step s = .next t →
    t.doutValid =
      if s.ports.rst = true then false
      else match accepted s with
        | some i => if blockOperation i = none ∨ acceptErr s.keyValid i ≠ .ok then s.doutValid else false
        | none => if s.st = .fin then true else s.doutValid

/-- R25, R26: `dec` and `chain` are written only at accept edges (and by reset), with the direction and with whether a block follows. -/
def Obligations.DirectionAndChainAreSetAtAcceptEdges : Prop :=
  ∀ s t : State, step s = .next t → s.ports.rst = false →
    t.dec = (match accepted s with
      | some i => if acceptErr s.keyValid i = .ok then ((blockOperation i).map Prod.fst).getD s.dec else s.dec
      | none => s.dec) ∧
    t.chain = (match accepted s with
      | some i => if loadedKey i = none then s.chain else (blockOperation i).isSome
      | none => s.chain)

/-- R31, R32: L and R are written by the accept edge of a block command that raises no error, and by RND edges (and reset). -/
def Obligations.HalfBlocksAreWrittenByAcceptAndRndEdges : Prop :=
  ∀ s t : State, step s = .next t → s.ports.rst = false →
    (s.st = .rnd → t.L = s.R ∧ t.R = s.L ^^^ roundFunction s.R (selectKey s.RK s.dec s.cnt)) ∧
    (∀ i d m, accepted s = some i → blockOperation i = some (d, m) → acceptErr s.keyValid i = .ok →
      t.L = hi32 (permute tableIP m) ∧ t.R = lo32 (permute tableIP m)) ∧
    (s.st ≠ .rnd → (∀ i, accepted s = some i → blockOperation i = none ∨ acceptErr s.keyValid i ≠ .ok) →
      t.L = s.L ∧ t.R = s.R)

/-- R33, R34: C and D are written by the accept edge of a key-loading command and by KS edges (and reset). -/
def Obligations.KeyHalvesAreWrittenByAcceptAndKsEdges : Prop :=
  ∀ s t : State, step s = .next t → s.ports.rst = false →
    (s.st = .ks → t.C = rotl28 s.C (shiftAmount (s.cnt.toNat + 1)) ∧
      t.D = rotl28 s.D (shiftAmount (s.cnt.toNat + 1))) ∧
    (∀ i k, accepted s = some i → loadedKey i = some k →
      t.C = hi28 (permute tablePC1 k) ∧ t.D = lo28 (permute tablePC1 k)) ∧
    (s.st ≠ .ks → (∀ i, accepted s = some i → loadedKey i = none) → t.C = s.C ∧ t.D = s.D)

/-- R61: no edge but a KS edge writes RK, and a KS edge writes exactly one entry, that of its round.
(After a reset edge RK is unspecified, R41, so reset edges are not spoken of; log entry 15.) -/
def Obligations.RoundKeysAreWrittenOnlyByKsEdges : Prop :=
  ∀ s t : State, step s = .next t → s.ports.rst = false →
    (s.st ≠ .ks → t.RK = s.RK) ∧
    (s.st = .ks → t.RK[s.cnt.toNat] = permute tablePC2 (join28 t.C t.D) ∧
      ∀ j : Fin 16, j.val ≠ s.cnt.toNat → t.RK[j] = s.RK[j])

/-- R35: DOUT is written only by the FIN edge, and by reset, and the host reads it through `data_out`. -/
def Obligations.ResultIsWrittenOnlyByTheFinEdge : Prop :=
  State.reset.DOUT = 0x0000000000000000#64 ∧
  ∀ s t : State, step s = .next t →
    t.DOUT = (
      if s.ports.rst = true then 0x0000000000000000#64
      else if s.st = .fin then permute tableIPinv (join32 s.R s.L)
      else s.DOUT) ∧
    (outputs t).dataOut = t.DOUT

/-- R63: `rk_out` is the whole selected entry, and shows what a KS edge wrote there from the next cycle on. -/
def Obligations.RkOutShowsTheSelectedEntry : Prop :=
  (∀ s : State, ∀ sel : BitVec 4, s.ports.rkSel = sel → (outputs s).rkOut = s.RK[sel.toNat]) ∧
  (∀ s t : State, step s = .next t → s.ports.rst = false → s.st = .ks → t.ports.rkSel = s.cnt →
    (outputs t).rkOut = permute tablePC2 (join28 t.C t.D))

/-- R278: a reset during a key schedule leaves no valid key, and a following ENC or DEC raises NO_KEY. -/
def Obligations.ResetDuringAKeyScheduleLosesTheKey : Prop :=
  ∀ (s t : State) (m : Block), s.st = .ks → s.ports.rst = true → step s = .next t →
    t.keyValid = false ∧
    exec (.enc m) t = .next { t with err := .noKey, done := true } ∧
    exec (.dec m) t = .next { t with err := .noKey, done := true }

/-! The functions (40 to 44) -/

/-- R137 (b), R103: IP and IP^-1 cancel in either order. -/
def Obligations.InitialAndFinalPermutationsCancel : Prop :=
  ∀ v : Block, permute tableIPinv (permute tableIP v) = v ∧ permute tableIP (permute tableIPinv v) = v

/-- R46, R152: the sixteen rotations are a full turn of each key half. -/
def Obligations.KeyHalvesComeFullTurn : Prop :=
  (((List.range 16).map fun j => shiftAmount (j + 1)).sum = 28) ∧ ∀ k : Block, keyHalves k 16 = keyHalves k 0

/-- R155: keys that differ only in positions 8, 16, .., 64 have the same PC-1 output and key schedule, and every command that
loads a key does the same with either. -/
def Obligations.ParityBitsHaveNoEffect : Prop :=
  ∀ k k' : Block, (∀ n, 1 ≤ n → n ≤ 64 → n % 8 ≠ 0 → bit k n = bit k' n) →
    keyPlus k = keyPlus k' ∧ keySchedule k = keySchedule k' ∧
    ∀ (s : State) (m : Block),
      exec (.ldkey k) s = exec (.ldkey k') s ∧ exec (.enck k m) s = exec (.enck k' m) s ∧
      exec (.deck k m) s = exec (.deck k' m) s

/-- R170: complementing both the half-block and the round key leaves F unchanged. -/
def Obligations.RoundFunctionIgnoresJointComplement : Prop :=
  ∀ (r : Half) (k : RoundKey), roundFunction (~~~r) (~~~k) = roundFunction r k

/-- R193: round cnt + 1 reads entry cnt + 1 forward and entry 16 - cnt reversed (entry i at index i - 1),
which is that entry of the sequence, forward or reversed. -/
def Obligations.RoundKeySelectionIsTheSequenceInOrder : Prop :=
  ∀ (rk : RoundKeys) (cnt : Counter),
    selectKey rk false cnt = rk[cnt.toNat] ∧ selectKey rk true cnt = rk[15 - cnt.toNat] ∧
    ∀ d : Bool, selectKey rk d cnt = (keyOrder d rk)[cnt.toNat]

/-- R196, R190: `Crypt` with the reversed round keys undoes `Crypt`, so decryption and encryption undo each other. -/
def Obligations.DecryptionUndoesEncryption : Prop :=
  (∀ (k : RoundKeys) (m : Block), crypt k.reverse (crypt k m) = m) ∧
  (∀ key m : Block, crypt (keySchedule key).reverse (crypt (keySchedule key) m) = m ∧
    crypt (keySchedule key) (crypt (keySchedule key).reverse m) = m ∧
    decrypt key (encrypt (keySchedule key) m) = m)

/-- R200: complementing key and block complements the result. -/
def Obligations.CipherCommutesWithComplement : Prop :=
  ∀ key m : Block, crypt (keySchedule (~~~key)) (~~~m) = ~~~(crypt (keySchedule key) m)

/-- 95 section 5, from R150, R193 and R196: the keys whose schedule is its own reverse encrypt a block twice to itself. -/
def Obligations.SelfReverseKeysEncryptTwiceToTheBlock : Prop :=
  ∀ key : Block,
    key = 0x0101010101010101#64 ∨ key = 0xFEFEFEFEFEFEFEFE#64 ∨ key = 0x1F1F1F1F0E0E0E0E#64 ∨
      key = 0xE0E0E0E0F1F1F1F1#64 →
    ∀ m : Block, crypt (keySchedule key) (crypt (keySchedule key) m) = m ∧
      decrypt key m = crypt (keySchedule key) m

/-! Whole commands (45_commands.md section 2, 70_reset_and_hazards.md section 4) -/

/-- R214: seventeen edges of LDKEY. -/
def Obligations.LdkeyDerivesTheKeySchedule : Prop :=
  ∀ (s : State) (k : Block), Ready s → Presents (.ldkey k) s → NoResetFor 17 s →
    ∃ t, steps 17 s = .next t ∧ t.RK = keySchedule k ∧ t.keyValid = true ∧ t.done = true ∧ t.st = .idle ∧
      t.cnt = 0 ∧ t.chain = false ∧ t.err = .ok ∧ t.C = hi28 (keyPlus k) ∧ t.D = lo28 (keyPlus k) ∧
      t.L = s.L ∧ t.R = s.R ∧ t.dec = s.dec ∧ t.DOUT = s.DOUT ∧ t.doutValid = s.doutValid

/-- R215: eighteen edges of ENC with a loaded key. -/
def Obligations.EncEncryptsWithTheStoredKeys : Prop :=
  ∀ (s : State) (m : Block), Ready s → Presents (.enc m) s → s.keyValid = true → NoResetFor 18 s →
    ∃ t, steps 18 s = .next t ∧ t.DOUT = crypt s.RK m ∧ t.doutValid = true ∧ t.done = true ∧ t.st = .idle ∧
      t.cnt = 0 ∧ t.err = .ok ∧ t.dec = false ∧ t.RK = s.RK ∧ t.keyValid = true ∧
      t.C = s.C ∧ t.D = s.D ∧ t.chain = s.chain

/-- R216: eighteen edges of DEC with a loaded key. -/
def Obligations.DecDecryptsWithTheStoredKeys : Prop :=
  ∀ (s : State) (m : Block), Ready s → Presents (.dec m) s → s.keyValid = true → NoResetFor 18 s →
    ∃ t, steps 18 s = .next t ∧ t.DOUT = crypt s.RK.reverse m ∧ t.doutValid = true ∧ t.done = true ∧
      t.st = .idle ∧ t.cnt = 0 ∧ t.err = .ok ∧ t.dec = true ∧ t.RK = s.RK ∧ t.keyValid = true ∧
      t.C = s.C ∧ t.D = s.D ∧ t.chain = s.chain

/-- R217: thirty-four edges of ENCK. -/
def Obligations.EnckLoadsAKeyAndEncrypts : Prop :=
  ∀ (s : State) (k m : Block), Ready s → Presents (.enck k m) s → NoResetFor 34 s →
    ∃ t, steps 34 s = .next t ∧ t.DOUT = crypt (keySchedule k) m ∧ t.doutValid = true ∧ t.done = true ∧
      t.st = .idle ∧ t.cnt = 0 ∧ t.err = .ok ∧ t.dec = false ∧ t.chain = true ∧
      t.RK = keySchedule k ∧ t.keyValid = true

/-- R218: thirty-four edges of DECK. -/
def Obligations.DeckLoadsAKeyAndDecrypts : Prop :=
  ∀ (s : State) (k m : Block), Ready s → Presents (.deck k m) s → NoResetFor 34 s →
    ∃ t, steps 34 s = .next t ∧ t.DOUT = decrypt k m ∧ t.doutValid = true ∧ t.done = true ∧
      t.st = .idle ∧ t.cnt = 0 ∧ t.err = .ok ∧ t.dec = true ∧ t.chain = true ∧
      t.RK = keySchedule k ∧ t.keyValid = true

/-- R282, R29: every command completes at exactly the edge the latency table gives, with no `done` before it. -/
def Obligations.EveryCommandCompletesAtItsLatency : Prop :=
  ∀ (i : Instr) (s : State), Ready s → Presents i s → NoResetFor (latency s.keyValid i) s →
    (∃ t, steps (latency s.keyValid i) s = .next t ∧ t.done = true ∧ t.st = .idle) ∧
    (∀ j, 0 < j → j < latency s.keyValid i → ∃ u, steps j s = .next u ∧ u.done = false ∧ u.st ≠ .idle)

/-- R275, R212, R282: a command held on the ports of a booted engine, in whatever state, is taken at the first edge at which the
engine is ready, at most 33 edges on, and at no edge before. -/
def Obligations.HeldCommandIsTakenWithinThirtyThreeEdges : Prop :=
  ∀ (i : Instr) (s : State), s.booted = true →
    (∀ j, j ≤ 33 → (portsAt s j).rst = false ∧ (portsAt s j).cmdValid = true ∧ decode (portsAt s j).command = i) →
    ∃ n t, n ≤ 33 ∧ steps n s = .next t ∧ accepted t = some i ∧
      ∀ j, j < n → ∃ u, steps j s = .next u ∧ accepted u = none

/-- R158, R277, R152: i edges into the key schedule of LDKEY, ENCK or DECK, C and D are C_i and D_i, entries 1..i of RK are
the new round keys, the later entries still the old, and key_valid is 0 until the sixteenth. -/
def Obligations.KeyScheduleFillsTheStoreInOrder : Prop :=
  ∀ (c : Instr) (k : Block) (s : State) (i : Nat), loadedKey c = some k → Ready s → Presents c s → i ≤ 16 →
    NoResetFor (1 + i) s →
    ∃ t, steps (1 + i) s = .next t ∧ (t.C, t.D) = keyHalves k i ∧
      (∀ j : Fin 16, t.RK[j] = if j.val < i then (keySchedule k)[j] else s.RK[j]) ∧
      t.keyValid = decide (i = 16)

/-- R256, R190, R74: after round j of a block command the trace ports show (RND, j, L_j, R_j), and (FIN, 0, L_16, R_16) after
round 16, for the key order of the command. -/
def Obligations.TraceShowsEveryRound : Prop :=
  ∀ (c : Instr) (d : Bool) (m : Block) (s : State) (j : Nat), blockOperation c = some (d, m) → Ready s →
    Presents c s → (loadedKey c = none → s.keyValid = true) → j ≤ 16 →
    NoResetFor ((loadedKey c).elim 1 (fun _ => 17) + j) s →
    ∃ t, steps ((loadedKey c).elim 1 (fun _ => 17) + j) s = .next t ∧
      (outputs t).trcSt = (if j < 16 then 0b10#2 else 0b11#2) ∧
      (outputs t).trcCnt = (if j < 16 then BitVec.ofNat 4 j else 0) ∧
      ((outputs t).trcL, (outputs t).trcR) = blockHalves (keyOrder d ((loadedKey c).elim s.RK keySchedule)) m j

/-- R216, R196: with one stored key, DEC of what ENC left in DOUT gives the block back. -/
def Obligations.DecOfTheResultOfEncGivesTheBlockBack : Prop :=
  ∀ (s t : State) (m : Block) (p : Ports), Ready s → Presents (.enc m) s → s.keyValid = true → NoResetFor 18 s →
    steps 18 s = .next t → Presents (.dec t.DOUT) (withPorts p t) → NoResetFor 18 (withPorts p t) →
    ∃ u, steps 18 (withPorts p t) = .next u ∧ u.DOUT = m ∧ u.doutValid = true ∧ u.done = true

/-- R88, R222: the host script KEYSCHED reads K_1 .. K_16 from the port `rk_out` (driver of log entry 14). -/
def Obligations.KeyschedScriptReadsTheKeySchedule : Prop :=
  ∀ (s : State) (k : Block), Ready s →
    ∃ n h, HostRun.run n { state := s, todo := (Pseudo.keysched k).expand, samples := [] } = .next h ∧
      h.ended = true ∧ h.samples = (keySchedule k).toList

/-- R88, R222, R195: the host scripts ENCRYPT and DECRYPT leave the source's functions' results on `data_out`
(driver of log entry 14). -/
def Obligations.EncryptAndDecryptScriptsDeliverTheResult : Prop :=
  ∀ (s : State) (k m : Block), Ready s →
    (∃ n h, HostRun.run n { state := s, todo := (Pseudo.encrypt k m).expand, samples := [] } = .next h ∧
      h.ended = true ∧ (outputs h.state).dataOut = encrypt (keySchedule k) m ∧ (outputs h.state).doutValid = true) ∧
    (∃ n h, HostRun.run n { state := s, todo := (Pseudo.decrypt k m).expand, samples := [] } = .next h ∧
      h.ended = true ∧ (outputs h.state).dataOut = decrypt k m ∧ (outputs h.state).doutValid = true)

/-! Invariants and noninterference -/

/-- R44, R27, R28, R29: every step keeps the control invariant. -/
def Obligations.EveryStepKeepsTheControlInvariant : Prop :=
  ∀ s t : State, ControlInv s → step s = .next t → ControlInv t

/-- R41, R44: the control invariant holds after reset. -/
def Obligations.ControlInvariantHoldsAtReset : Prop := ControlInv State.reset

/-- R45, R158: the accept edge of a command that loads k makes k the key of the store, and every step that accepts no command
loading another key keeps it so. A store whose key is k holds KS(k) when key_valid = 1. -/
def Obligations.StoredRoundKeysAreTheScheduleOfTheLastKey : Prop :=
  ∀ (k : Block) (s t : State), step s = .next t →
    (∀ i, accepted s = some i → loadedKey i = some k → KeyIs k t) ∧
    (KeyIs k s → (∀ i, accepted s = some i → loadedKey i = none ∨ loadedKey i = some k) →
      KeyIs k t ∧ (t.keyValid = true → t.RK = keySchedule k))

/-- R45, R41: after reset no key is loaded, so the store is that of any key one may name. -/
def Obligations.NoKeyIsLoadedAtReset : Prop := State.reset.keyValid = false ∧ ∀ k : Block, KeyIs k State.reset

/-- R283, R197: FSM state, flags and completion in every cycle depend on the control ports only, never on key or block values. -/
def Obligations.TimingDependsOnControlInputsOnly : Prop :=
  ∀ s t : State, SameTiming s t → BothNext SameTiming (step s) (step t)

/-- R43, R41: registers that hold no specified value never reach a result: states that differ only there give, step for step,
states that differ only there, with the same flags and result on the output ports; and any two reset edges leave such states.
It holds for all free values of log entry 3. -/
def Obligations.UnspecifiedRegistersReachNoResult : Prop :=
  (∀ s t : State, SameResults s t → BothNext SameResults (step s) (step t)) ∧
  (∀ s t : State, SameResults s t →
    (outputs s).cmdReady = (outputs t).cmdReady ∧ (outputs s).done = (outputs t).done ∧
    (outputs s).keyValid = (outputs t).keyValid ∧ (outputs s).doutValid = (outputs t).doutValid ∧
    (outputs s).err = (outputs t).err ∧ (outputs s).dataOut = (outputs t).dataOut ∧
    (s.keyValid = true → (outputs s).rkOut = (outputs t).rkOut)) ∧
  (∀ s t : State, s.ports.rst = true → t.ports.rst = true → s.upcoming = t.upcoming →
    BothNext SameResults (step s) (step t))
end

