-- ==== Sys2Proof/Laws/BitField.lean ====
section
/-!
SUPPORT. What the bit-field primitives do, position by position (40_bitfield.md R100 to R107).
-/

namespace Sys2Proof.Machine

/-- Position n of a permuted field is position `T[n]` of the field (R102). -/
theorem bit_permute {w m : Nat} (T : Vector Nat m) (v : BitVec w) (n : Nat) (h : 1 ≤ n ∧ n ≤ m) :
    bit (permute T v) n = bit v (T[n - 1]'(by omega)) := by
  have hn : n - 1 < m := by omega
  simp [bit, permute, BitVec.getMsbD_ofFnBE, hn]

/-- Two fields are equal when they agree at every position 1..w. -/
theorem eq_of_bit_eq {w : Nat} {u v : BitVec w} (h : ∀ n, 1 ≤ n ∧ n ≤ w → bit u n = bit v n) : u = v := by
  apply BitVec.eq_of_getMsbD_eq
  intro i hi
  have := h (i + 1) (by omega)
  simpa [bit] using this

/-- Complement flips every position 1..w. -/
theorem bit_not {w : Nat} (v : BitVec w) (n : Nat) (h : 1 ≤ n ∧ n ≤ w) : bit (~~~v) n = !bit v n := by
  have hn : n - 1 < w := by omega
  simp [bit, hn]

/-- A position of an exclusive OR (R107). -/
theorem bit_xor {w : Nat} (u v : BitVec w) (n : Nat) : bit (u ^^^ v) n = (bit u n ^^ bit v n) := by
  simp [bit]

/-- Every entry of a table names a position 1..w of its source (R137 (a)). -/
def TableInRange {m : Nat} (T : Vector Nat m) (w : Nat) : Prop :=
  ∀ k : Fin m, 1 ≤ T[k] ∧ T[k] ≤ w

/-- A table commutes with complement (R171, R200). -/
theorem permute_not {w m : Nat} (T : Vector Nat m) (hT : TableInRange T w) (v : BitVec w) :
    permute T (~~~v) = ~~~(permute T v) := by
  apply eq_of_bit_eq
  intro n hn
  rw [bit_not _ _ hn, bit_permute _ _ _ hn, bit_permute _ _ _ hn]
  exact bit_not v _ (hT ⟨n - 1, by omega⟩)

/-- Two fields that agree at every position a table reads have the same image. -/
theorem permute_congr {w m : Nat} (T : Vector Nat m) {u v : BitVec w} (h : ∀ k : Fin m, bit u T[k] = bit v T[k]) :
    permute T u = permute T v := by
  apply eq_of_bit_eq
  intro n hn
  rw [bit_permute _ _ _ hn, bit_permute _ _ _ hn]
  exact h ⟨n - 1, by omega⟩

/-- Applying a table and then another that names its positions back gives the field (R103). -/
theorem permute_permute_cancel {w m : Nat} (T : Vector Nat m) (T' : Vector Nat w)
    (h : ∀ k : Fin w, ∃ hk : 1 ≤ T'[k] ∧ T'[k] ≤ m, T[T'[k] - 1]'(by omega) = k.val + 1) (v : BitVec w) :
    permute T' (permute T v) = v := by
  apply eq_of_bit_eq
  intro n hn
  obtain ⟨hk, he⟩ := h ⟨n - 1, by omega⟩
  simp only [Fin.getElem_fin] at hk he
  rw [bit_permute _ _ _ hn, bit_permute _ _ _ hk, he, Nat.sub_add_cancel hn.1]

/-- A bit of a joined block (R104). -/
theorem getLsbD_join32 (a b : Half) (i : Nat) :
    (join32 a b).getLsbD i = if i < 32 then b.getLsbD i else a.getLsbD (i - 32) := by
  have h := BitVec.getLsbD_append (x := a) (y := b) (i := i)
  rw [join32]
  split <;> simp_all

/-- A bit of a joined key (R105). -/
theorem getLsbD_join28 (c d : KeyHalf) (i : Nat) :
    (join28 c d).getLsbD i = if i < 28 then d.getLsbD i else c.getLsbD (i - 28) := by
  have h := BitVec.getLsbD_append (x := c) (y := d) (i := i)
  rw [join28]
  split <;> simp_all

/-- The halves of a 64-bit concatenation (R104). -/
theorem hi32_join32 (a b : Half) : hi32 (join32 a b) = a := by
  apply BitVec.eq_of_getLsbD_eq
  intro i hi
  simp [hi32, getLsbD_join32, hi]

theorem lo32_join32 (a b : Half) : lo32 (join32 a b) = b := by
  apply BitVec.eq_of_getLsbD_eq
  intro i hi
  simp [lo32, getLsbD_join32, hi]

/-- A block is its two halves put together (R104). -/
theorem join32_hi32_lo32 (v : Block) : join32 (hi32 v) (lo32 v) = v := by
  apply BitVec.eq_of_getLsbD_eq
  intro i hi
  rw [getLsbD_join32]
  split
  · simp [lo32, *]
  · have h2 : i - 32 < 32 := by omega
    have h3 : 32 + (i - 32) = i := by omega
    simp [hi32, h2, h3]

/-- Joining commutes with complement (R104, R200). -/
theorem join32_not (a b : Half) : join32 (~~~a) (~~~b) = ~~~(join32 a b) := by
  apply BitVec.eq_of_getLsbD_eq
  intro i hi
  have h2 : ¬ i < 32 → i - 32 < 32 := by omega
  rw [BitVec.getLsbD_not, getLsbD_join32, getLsbD_join32]
  split <;> simp_all

/-- Joining commutes with complement (R105, R200). -/
theorem join28_not (c d : KeyHalf) : join28 (~~~c) (~~~d) = ~~~(join28 c d) := by
  apply BitVec.eq_of_getLsbD_eq
  intro i hi
  have h2 : ¬ i < 28 → i - 28 < 28 := by omega
  rw [BitVec.getLsbD_not, getLsbD_join28, getLsbD_join28]
  split <;> simp_all

/-- Rotations compose, modulo the width (R106). -/
theorem rotl28_rotl28 (x : KeyHalf) (a b : Nat) : rotl28 (rotl28 x a) b = rotl28 x (a + b) := by
  apply BitVec.eq_of_getMsbD_eq
  intro i hi
  simp only [rotl28, BitVec.getMsbD_rotateLeft, hi, decide_true, Bool.true_and]
  have : (b + i) % 28 < 28 := Nat.mod_lt _ (by decide)
  simp only [this, decide_true, Bool.true_and]
  congr 1
  omega

/-- A full turn changes nothing (R106). -/
theorem rotl28_28 (x : KeyHalf) : rotl28 x 28 = x := by
  apply BitVec.eq_of_getMsbD_eq
  intro i hi
  simp only [rotl28, BitVec.getMsbD_rotateLeft, hi, decide_true, Bool.true_and]
  congr 1
  omega

end Sys2Proof.Machine
end

