-- ==== Sys2Proof/Laws/HostScript.lean ====
section
/-!
SUPPORT. What one cycle and a run of a host script do.
-/

namespace Sys2Proof.Machine

theorem HostRun.drive_of_step {p : Ports} {s t : State} (todo : List HostAction) (samples : List RoundKey)
    (h : step (withPorts p s) = .next t) :
    HostRun.drive p todo samples s =
      .next { state := withPorts (Ports.hold p.rkSel) t, todo := todo, samples := samples } := by
  simp only [HostRun.drive, h]

theorem HostRun.run_succ_of_cycle {h h' : HostRun} (n : Nat) (hc : h.cycle = .next h') :
    h.run (n + 1) = h'.run n := by
  simp only [HostRun.run, hc]

/-- m cycles of a script and then n more. -/
theorem HostRun.run_add_of_next {h h' : HostRun} (m n : Nat) (hm : h.run m = .next h') :
    h.run (m + n) = h'.run n := by
  induction m generalizing h with
  | zero =>
    cases hm
    rw [Nat.zero_add]
  | succ m ih =>
    rw [Nat.succ_add]
    cases hc : h.cycle with
    | next u => rw [HostRun.run_succ_of_cycle _ hc] at hm ⊢; exact ih hm
    | fault f => simp only [HostRun.run, hc] at hm; cases hm
    | refused r => simp only [HostRun.run, hc] at hm; cases hm

end Sys2Proof.Machine
end

