-- ==== Sys2Proof/Laws/State.lean ====
section
/-!
SUPPORT. One lemma per field and state update: what each operation of Machine/Ops.lean leaves in each field of State.
-/

namespace Sys2Proof.Machine

/-! `completeWith` -/

@[simp] theorem completeWith_st (e : ErrCode) (s : State) : (completeWith e s).st = s.st := rfl
@[simp] theorem completeWith_cnt (e : ErrCode) (s : State) : (completeWith e s).cnt = s.cnt := rfl
@[simp] theorem completeWith_dec (e : ErrCode) (s : State) : (completeWith e s).dec = s.dec := rfl
@[simp] theorem completeWith_chain (e : ErrCode) (s : State) : (completeWith e s).chain = s.chain := rfl
@[simp] theorem completeWith_keyValid (e : ErrCode) (s : State) : (completeWith e s).keyValid = s.keyValid := rfl
@[simp] theorem completeWith_doutValid (e : ErrCode) (s : State) : (completeWith e s).doutValid = s.doutValid := rfl
@[simp] theorem completeWith_done (e : ErrCode) (s : State) : (completeWith e s).done = true := rfl
@[simp] theorem completeWith_err (e : ErrCode) (s : State) : (completeWith e s).err = e := rfl
@[simp] theorem completeWith_L (e : ErrCode) (s : State) : (completeWith e s).L = s.L := rfl
@[simp] theorem completeWith_R (e : ErrCode) (s : State) : (completeWith e s).R = s.R := rfl
@[simp] theorem completeWith_C (e : ErrCode) (s : State) : (completeWith e s).C = s.C := rfl
@[simp] theorem completeWith_D (e : ErrCode) (s : State) : (completeWith e s).D = s.D := rfl
@[simp] theorem completeWith_DOUT (e : ErrCode) (s : State) : (completeWith e s).DOUT = s.DOUT := rfl
@[simp] theorem completeWith_RK (e : ErrCode) (s : State) : (completeWith e s).RK = s.RK := rfl
@[simp] theorem completeWith_ports (e : ErrCode) (s : State) : (completeWith e s).ports = s.ports := rfl
@[simp] theorem completeWith_upcoming (e : ErrCode) (s : State) : (completeWith e s).upcoming = s.upcoming := rfl
@[simp] theorem completeWith_booted (e : ErrCode) (s : State) : (completeWith e s).booted = s.booted := rfl
@[simp] theorem completeWith_draws (e : ErrCode) (s : State) : (completeWith e s).draws = s.draws := rfl

/-! `raise` -/

@[simp] theorem raise_st (e : ErrCode) (s : State) : (raise e s).st = s.st := rfl
@[simp] theorem raise_cnt (e : ErrCode) (s : State) : (raise e s).cnt = s.cnt := rfl
@[simp] theorem raise_dec (e : ErrCode) (s : State) : (raise e s).dec = s.dec := rfl
@[simp] theorem raise_chain (e : ErrCode) (s : State) : (raise e s).chain = s.chain := rfl
@[simp] theorem raise_keyValid (e : ErrCode) (s : State) : (raise e s).keyValid = s.keyValid := rfl
@[simp] theorem raise_doutValid (e : ErrCode) (s : State) : (raise e s).doutValid = s.doutValid := rfl
@[simp] theorem raise_done (e : ErrCode) (s : State) : (raise e s).done = true := rfl
@[simp] theorem raise_err (e : ErrCode) (s : State) : (raise e s).err = e := rfl
@[simp] theorem raise_L (e : ErrCode) (s : State) : (raise e s).L = s.L := rfl
@[simp] theorem raise_R (e : ErrCode) (s : State) : (raise e s).R = s.R := rfl
@[simp] theorem raise_C (e : ErrCode) (s : State) : (raise e s).C = s.C := rfl
@[simp] theorem raise_D (e : ErrCode) (s : State) : (raise e s).D = s.D := rfl
@[simp] theorem raise_DOUT (e : ErrCode) (s : State) : (raise e s).DOUT = s.DOUT := rfl
@[simp] theorem raise_RK (e : ErrCode) (s : State) : (raise e s).RK = s.RK := rfl
@[simp] theorem raise_ports (e : ErrCode) (s : State) : (raise e s).ports = s.ports := rfl
@[simp] theorem raise_upcoming (e : ErrCode) (s : State) : (raise e s).upcoming = s.upcoming := rfl
@[simp] theorem raise_booted (e : ErrCode) (s : State) : (raise e s).booted = s.booted := rfl
@[simp] theorem raise_draws (e : ErrCode) (s : State) : (raise e s).draws = s.draws := rfl

/-! `startKeySchedule` -/

@[simp] theorem startKeySchedule_st (k : Block) (ch : Bool) (s : State) : (startKeySchedule k ch s).st = .ks := rfl
@[simp] theorem startKeySchedule_cnt (k : Block) (ch : Bool) (s : State) : (startKeySchedule k ch s).cnt = 0 := rfl
@[simp] theorem startKeySchedule_dec (k : Block) (ch : Bool) (s : State) : (startKeySchedule k ch s).dec = s.dec := rfl
@[simp] theorem startKeySchedule_chain (k : Block) (ch : Bool) (s : State) : (startKeySchedule k ch s).chain = ch := rfl
@[simp] theorem startKeySchedule_keyValid (k : Block) (ch : Bool) (s : State) : (startKeySchedule k ch s).keyValid = false := rfl
@[simp] theorem startKeySchedule_doutValid (k : Block) (ch : Bool) (s : State) : (startKeySchedule k ch s).doutValid = s.doutValid := rfl
@[simp] theorem startKeySchedule_done (k : Block) (ch : Bool) (s : State) : (startKeySchedule k ch s).done = false := rfl
@[simp] theorem startKeySchedule_err (k : Block) (ch : Bool) (s : State) : (startKeySchedule k ch s).err = .ok := rfl
@[simp] theorem startKeySchedule_L (k : Block) (ch : Bool) (s : State) : (startKeySchedule k ch s).L = s.L := rfl
@[simp] theorem startKeySchedule_R (k : Block) (ch : Bool) (s : State) : (startKeySchedule k ch s).R = s.R := rfl
@[simp] theorem startKeySchedule_C (k : Block) (ch : Bool) (s : State) : (startKeySchedule k ch s).C = hi28 (keyPlus k) := rfl
@[simp] theorem startKeySchedule_D (k : Block) (ch : Bool) (s : State) : (startKeySchedule k ch s).D = lo28 (keyPlus k) := rfl
@[simp] theorem startKeySchedule_DOUT (k : Block) (ch : Bool) (s : State) : (startKeySchedule k ch s).DOUT = s.DOUT := rfl
@[simp] theorem startKeySchedule_RK (k : Block) (ch : Bool) (s : State) : (startKeySchedule k ch s).RK = s.RK := rfl
@[simp] theorem startKeySchedule_ports (k : Block) (ch : Bool) (s : State) : (startKeySchedule k ch s).ports = s.ports := rfl
@[simp] theorem startKeySchedule_upcoming (k : Block) (ch : Bool) (s : State) : (startKeySchedule k ch s).upcoming = s.upcoming := rfl
@[simp] theorem startKeySchedule_booted (k : Block) (ch : Bool) (s : State) : (startKeySchedule k ch s).booted = s.booted := rfl
@[simp] theorem startKeySchedule_draws (k : Block) (ch : Bool) (s : State) : (startKeySchedule k ch s).draws = s.draws := rfl

/-! `loadBlock` -/

@[simp] theorem loadBlock_st (m : Block) (dr : Bool) (s : State) : (loadBlock m dr s).st = s.st := rfl
@[simp] theorem loadBlock_cnt (m : Block) (dr : Bool) (s : State) : (loadBlock m dr s).cnt = s.cnt := rfl
@[simp] theorem loadBlock_dec (m : Block) (dr : Bool) (s : State) : (loadBlock m dr s).dec = dr := rfl
@[simp] theorem loadBlock_chain (m : Block) (dr : Bool) (s : State) : (loadBlock m dr s).chain = s.chain := rfl
@[simp] theorem loadBlock_keyValid (m : Block) (dr : Bool) (s : State) : (loadBlock m dr s).keyValid = s.keyValid := rfl
@[simp] theorem loadBlock_doutValid (m : Block) (dr : Bool) (s : State) : (loadBlock m dr s).doutValid = false := rfl
@[simp] theorem loadBlock_done (m : Block) (dr : Bool) (s : State) : (loadBlock m dr s).done = s.done := rfl
@[simp] theorem loadBlock_err (m : Block) (dr : Bool) (s : State) : (loadBlock m dr s).err = s.err := rfl
@[simp] theorem loadBlock_L (m : Block) (dr : Bool) (s : State) : (loadBlock m dr s).L = (initialHalves m).1 := rfl
@[simp] theorem loadBlock_R (m : Block) (dr : Bool) (s : State) : (loadBlock m dr s).R = (initialHalves m).2 := rfl
@[simp] theorem loadBlock_C (m : Block) (dr : Bool) (s : State) : (loadBlock m dr s).C = s.C := rfl
@[simp] theorem loadBlock_D (m : Block) (dr : Bool) (s : State) : (loadBlock m dr s).D = s.D := rfl
@[simp] theorem loadBlock_DOUT (m : Block) (dr : Bool) (s : State) : (loadBlock m dr s).DOUT = s.DOUT := rfl
@[simp] theorem loadBlock_RK (m : Block) (dr : Bool) (s : State) : (loadBlock m dr s).RK = s.RK := rfl
@[simp] theorem loadBlock_ports (m : Block) (dr : Bool) (s : State) : (loadBlock m dr s).ports = s.ports := rfl
@[simp] theorem loadBlock_upcoming (m : Block) (dr : Bool) (s : State) : (loadBlock m dr s).upcoming = s.upcoming := rfl
@[simp] theorem loadBlock_booted (m : Block) (dr : Bool) (s : State) : (loadBlock m dr s).booted = s.booted := rfl
@[simp] theorem loadBlock_draws (m : Block) (dr : Bool) (s : State) : (loadBlock m dr s).draws = s.draws := rfl

/-! `startRounds` -/

@[simp] theorem startRounds_st (s : State) : (startRounds s).st = .rnd := rfl
@[simp] theorem startRounds_cnt (s : State) : (startRounds s).cnt = 0 := rfl
@[simp] theorem startRounds_dec (s : State) : (startRounds s).dec = s.dec := rfl
@[simp] theorem startRounds_chain (s : State) : (startRounds s).chain = s.chain := rfl
@[simp] theorem startRounds_keyValid (s : State) : (startRounds s).keyValid = s.keyValid := rfl
@[simp] theorem startRounds_doutValid (s : State) : (startRounds s).doutValid = s.doutValid := rfl
@[simp] theorem startRounds_done (s : State) : (startRounds s).done = false := rfl
@[simp] theorem startRounds_err (s : State) : (startRounds s).err = .ok := rfl
@[simp] theorem startRounds_L (s : State) : (startRounds s).L = s.L := rfl
@[simp] theorem startRounds_R (s : State) : (startRounds s).R = s.R := rfl
@[simp] theorem startRounds_C (s : State) : (startRounds s).C = s.C := rfl
@[simp] theorem startRounds_D (s : State) : (startRounds s).D = s.D := rfl
@[simp] theorem startRounds_DOUT (s : State) : (startRounds s).DOUT = s.DOUT := rfl
@[simp] theorem startRounds_RK (s : State) : (startRounds s).RK = s.RK := rfl
@[simp] theorem startRounds_ports (s : State) : (startRounds s).ports = s.ports := rfl
@[simp] theorem startRounds_upcoming (s : State) : (startRounds s).upcoming = s.upcoming := rfl
@[simp] theorem startRounds_booted (s : State) : (startRounds s).booted = s.booted := rfl
@[simp] theorem startRounds_draws (s : State) : (startRounds s).draws = s.draws := rfl

/-! `idleEdge` -/

@[simp] theorem idleEdge_st (s : State) : (idleEdge s).st = s.st := rfl
@[simp] theorem idleEdge_cnt (s : State) : (idleEdge s).cnt = s.cnt := rfl
@[simp] theorem idleEdge_dec (s : State) : (idleEdge s).dec = s.dec := rfl
@[simp] theorem idleEdge_chain (s : State) : (idleEdge s).chain = s.chain := rfl
@[simp] theorem idleEdge_keyValid (s : State) : (idleEdge s).keyValid = s.keyValid := rfl
@[simp] theorem idleEdge_doutValid (s : State) : (idleEdge s).doutValid = s.doutValid := rfl
@[simp] theorem idleEdge_done (s : State) : (idleEdge s).done = false := rfl
@[simp] theorem idleEdge_err (s : State) : (idleEdge s).err = s.err := rfl
@[simp] theorem idleEdge_L (s : State) : (idleEdge s).L = s.L := rfl
@[simp] theorem idleEdge_R (s : State) : (idleEdge s).R = s.R := rfl
@[simp] theorem idleEdge_C (s : State) : (idleEdge s).C = s.C := rfl
@[simp] theorem idleEdge_D (s : State) : (idleEdge s).D = s.D := rfl
@[simp] theorem idleEdge_DOUT (s : State) : (idleEdge s).DOUT = s.DOUT := rfl
@[simp] theorem idleEdge_RK (s : State) : (idleEdge s).RK = s.RK := rfl
@[simp] theorem idleEdge_ports (s : State) : (idleEdge s).ports = s.ports := rfl
@[simp] theorem idleEdge_upcoming (s : State) : (idleEdge s).upcoming = s.upcoming := rfl
@[simp] theorem idleEdge_booted (s : State) : (idleEdge s).booted = s.booted := rfl
@[simp] theorem idleEdge_draws (s : State) : (idleEdge s).draws = s.draws := rfl

/-! `ksEdge` -/

@[simp] theorem ksEdge_st (s : State) : (ksEdge s).st = phaseAfterKs s.cnt s.chain := rfl
@[simp] theorem ksEdge_cnt (s : State) : (ksEdge s).cnt = nextCnt s.cnt := rfl
@[simp] theorem ksEdge_dec (s : State) : (ksEdge s).dec = s.dec := rfl
@[simp] theorem ksEdge_chain (s : State) : (ksEdge s).chain = s.chain := rfl
@[simp] theorem ksEdge_keyValid (s : State) : (ksEdge s).keyValid = keyValidAfterKs s.cnt s.keyValid := rfl
@[simp] theorem ksEdge_doutValid (s : State) : (ksEdge s).doutValid = s.doutValid := rfl
@[simp] theorem ksEdge_done (s : State) : (ksEdge s).done = doneAfterKs s.cnt s.chain := rfl
@[simp] theorem ksEdge_err (s : State) : (ksEdge s).err = s.err := rfl
@[simp] theorem ksEdge_L (s : State) : (ksEdge s).L = s.L := rfl
@[simp] theorem ksEdge_R (s : State) : (ksEdge s).R = s.R := rfl
@[simp] theorem ksEdge_C (s : State) : (ksEdge s).C = rotl28 s.C (shiftAmount (roundNumber s.cnt)) := rfl
@[simp] theorem ksEdge_D (s : State) : (ksEdge s).D = rotl28 s.D (shiftAmount (roundNumber s.cnt)) := rfl
@[simp] theorem ksEdge_DOUT (s : State) : (ksEdge s).DOUT = s.DOUT := rfl
@[simp] theorem ksEdge_RK (s : State) : (ksEdge s).RK = writeKey s.RK s.cnt (roundKeyOf (rotl28 s.C (shiftAmount (roundNumber s.cnt))) (rotl28 s.D (shiftAmount (roundNumber s.cnt)))) := rfl
@[simp] theorem ksEdge_ports (s : State) : (ksEdge s).ports = s.ports := rfl
@[simp] theorem ksEdge_upcoming (s : State) : (ksEdge s).upcoming = s.upcoming := rfl
@[simp] theorem ksEdge_booted (s : State) : (ksEdge s).booted = s.booted := rfl
@[simp] theorem ksEdge_draws (s : State) : (ksEdge s).draws = s.draws := rfl

/-! `rndEdge` -/

@[simp] theorem rndEdge_st (s : State) : (rndEdge s).st = phaseAfterRnd s.cnt := rfl
@[simp] theorem rndEdge_cnt (s : State) : (rndEdge s).cnt = nextCnt s.cnt := rfl
@[simp] theorem rndEdge_dec (s : State) : (rndEdge s).dec = s.dec := rfl
@[simp] theorem rndEdge_chain (s : State) : (rndEdge s).chain = s.chain := rfl
@[simp] theorem rndEdge_keyValid (s : State) : (rndEdge s).keyValid = s.keyValid := rfl
@[simp] theorem rndEdge_doutValid (s : State) : (rndEdge s).doutValid = s.doutValid := rfl
@[simp] theorem rndEdge_done (s : State) : (rndEdge s).done = false := rfl
@[simp] theorem rndEdge_err (s : State) : (rndEdge s).err = s.err := rfl
@[simp] theorem rndEdge_L (s : State) : (rndEdge s).L = (feistelRound (s.L, s.R) (selectKey s.RK s.dec s.cnt)).1 := rfl
@[simp] theorem rndEdge_R (s : State) : (rndEdge s).R = (feistelRound (s.L, s.R) (selectKey s.RK s.dec s.cnt)).2 := rfl
@[simp] theorem rndEdge_C (s : State) : (rndEdge s).C = s.C := rfl
@[simp] theorem rndEdge_D (s : State) : (rndEdge s).D = s.D := rfl
@[simp] theorem rndEdge_DOUT (s : State) : (rndEdge s).DOUT = s.DOUT := rfl
@[simp] theorem rndEdge_RK (s : State) : (rndEdge s).RK = s.RK := rfl
@[simp] theorem rndEdge_ports (s : State) : (rndEdge s).ports = s.ports := rfl
@[simp] theorem rndEdge_upcoming (s : State) : (rndEdge s).upcoming = s.upcoming := rfl
@[simp] theorem rndEdge_booted (s : State) : (rndEdge s).booted = s.booted := rfl
@[simp] theorem rndEdge_draws (s : State) : (rndEdge s).draws = s.draws := rfl

/-! `finEdge` -/

@[simp] theorem finEdge_st (s : State) : (finEdge s).st = .idle := rfl
@[simp] theorem finEdge_cnt (s : State) : (finEdge s).cnt = s.cnt := rfl
@[simp] theorem finEdge_dec (s : State) : (finEdge s).dec = s.dec := rfl
@[simp] theorem finEdge_chain (s : State) : (finEdge s).chain = s.chain := rfl
@[simp] theorem finEdge_keyValid (s : State) : (finEdge s).keyValid = s.keyValid := rfl
@[simp] theorem finEdge_doutValid (s : State) : (finEdge s).doutValid = true := rfl
@[simp] theorem finEdge_done (s : State) : (finEdge s).done = true := rfl
@[simp] theorem finEdge_err (s : State) : (finEdge s).err = s.err := rfl
@[simp] theorem finEdge_L (s : State) : (finEdge s).L = s.L := rfl
@[simp] theorem finEdge_R (s : State) : (finEdge s).R = s.R := rfl
@[simp] theorem finEdge_C (s : State) : (finEdge s).C = s.C := rfl
@[simp] theorem finEdge_D (s : State) : (finEdge s).D = s.D := rfl
@[simp] theorem finEdge_DOUT (s : State) : (finEdge s).DOUT = finalBlock s.L s.R := rfl
@[simp] theorem finEdge_RK (s : State) : (finEdge s).RK = s.RK := rfl
@[simp] theorem finEdge_ports (s : State) : (finEdge s).ports = s.ports := rfl
@[simp] theorem finEdge_upcoming (s : State) : (finEdge s).upcoming = s.upcoming := rfl
@[simp] theorem finEdge_booted (s : State) : (finEdge s).booted = s.booted := rfl
@[simp] theorem finEdge_draws (s : State) : (finEdge s).draws = s.draws := rfl

/-! `resetEdge` -/

@[simp] theorem resetEdge_st (s : State) : (resetEdge s).st = .idle := rfl
@[simp] theorem resetEdge_cnt (s : State) : (resetEdge s).cnt = 0 := rfl
@[simp] theorem resetEdge_dec (s : State) : (resetEdge s).dec = false := rfl
@[simp] theorem resetEdge_chain (s : State) : (resetEdge s).chain = false := rfl
@[simp] theorem resetEdge_keyValid (s : State) : (resetEdge s).keyValid = false := rfl
@[simp] theorem resetEdge_doutValid (s : State) : (resetEdge s).doutValid = false := rfl
@[simp] theorem resetEdge_done (s : State) : (resetEdge s).done = false := rfl
@[simp] theorem resetEdge_err (s : State) : (resetEdge s).err = .ok := rfl
@[simp] theorem resetEdge_L (s : State) : (resetEdge s).L = Config.unspecL s.draws := rfl
@[simp] theorem resetEdge_R (s : State) : (resetEdge s).R = Config.unspecR s.draws := rfl
@[simp] theorem resetEdge_C (s : State) : (resetEdge s).C = Config.unspecC s.draws := rfl
@[simp] theorem resetEdge_D (s : State) : (resetEdge s).D = Config.unspecD s.draws := rfl
@[simp] theorem resetEdge_DOUT (s : State) : (resetEdge s).DOUT = 0 := rfl
@[simp] theorem resetEdge_RK (s : State) : (resetEdge s).RK = Config.unspecRK s.draws := rfl
@[simp] theorem resetEdge_ports (s : State) : (resetEdge s).ports = s.ports := rfl
@[simp] theorem resetEdge_upcoming (s : State) : (resetEdge s).upcoming = s.upcoming := rfl
@[simp] theorem resetEdge_booted (s : State) : (resetEdge s).booted = true := rfl
@[simp] theorem resetEdge_draws (s : State) : (resetEdge s).draws = s.draws + 1 := rfl

/-! `driveNext` -/

@[simp] theorem driveNext_st (s : State) : (driveNext s).st = s.st := rfl
@[simp] theorem driveNext_cnt (s : State) : (driveNext s).cnt = s.cnt := rfl
@[simp] theorem driveNext_dec (s : State) : (driveNext s).dec = s.dec := rfl
@[simp] theorem driveNext_chain (s : State) : (driveNext s).chain = s.chain := rfl
@[simp] theorem driveNext_keyValid (s : State) : (driveNext s).keyValid = s.keyValid := rfl
@[simp] theorem driveNext_doutValid (s : State) : (driveNext s).doutValid = s.doutValid := rfl
@[simp] theorem driveNext_done (s : State) : (driveNext s).done = s.done := rfl
@[simp] theorem driveNext_err (s : State) : (driveNext s).err = s.err := rfl
@[simp] theorem driveNext_L (s : State) : (driveNext s).L = s.L := rfl
@[simp] theorem driveNext_R (s : State) : (driveNext s).R = s.R := rfl
@[simp] theorem driveNext_C (s : State) : (driveNext s).C = s.C := rfl
@[simp] theorem driveNext_D (s : State) : (driveNext s).D = s.D := rfl
@[simp] theorem driveNext_DOUT (s : State) : (driveNext s).DOUT = s.DOUT := rfl
@[simp] theorem driveNext_RK (s : State) : (driveNext s).RK = s.RK := rfl
@[simp] theorem driveNext_ports (s : State) : (driveNext s).ports = s.upcoming.headD Ports.quiet := rfl
@[simp] theorem driveNext_upcoming (s : State) : (driveNext s).upcoming = s.upcoming.tail := rfl
@[simp] theorem driveNext_booted (s : State) : (driveNext s).booted = s.booted := rfl
@[simp] theorem driveNext_draws (s : State) : (driveNext s).draws = s.draws := rfl

/-! `withPorts` -/

@[simp] theorem withPorts_st (p : Ports) (s : State) : (withPorts p s).st = s.st := rfl
@[simp] theorem withPorts_cnt (p : Ports) (s : State) : (withPorts p s).cnt = s.cnt := rfl
@[simp] theorem withPorts_dec (p : Ports) (s : State) : (withPorts p s).dec = s.dec := rfl
@[simp] theorem withPorts_chain (p : Ports) (s : State) : (withPorts p s).chain = s.chain := rfl
@[simp] theorem withPorts_keyValid (p : Ports) (s : State) : (withPorts p s).keyValid = s.keyValid := rfl
@[simp] theorem withPorts_doutValid (p : Ports) (s : State) : (withPorts p s).doutValid = s.doutValid := rfl
@[simp] theorem withPorts_done (p : Ports) (s : State) : (withPorts p s).done = s.done := rfl
@[simp] theorem withPorts_err (p : Ports) (s : State) : (withPorts p s).err = s.err := rfl
@[simp] theorem withPorts_L (p : Ports) (s : State) : (withPorts p s).L = s.L := rfl
@[simp] theorem withPorts_R (p : Ports) (s : State) : (withPorts p s).R = s.R := rfl
@[simp] theorem withPorts_C (p : Ports) (s : State) : (withPorts p s).C = s.C := rfl
@[simp] theorem withPorts_D (p : Ports) (s : State) : (withPorts p s).D = s.D := rfl
@[simp] theorem withPorts_DOUT (p : Ports) (s : State) : (withPorts p s).DOUT = s.DOUT := rfl
@[simp] theorem withPorts_RK (p : Ports) (s : State) : (withPorts p s).RK = s.RK := rfl
@[simp] theorem withPorts_ports (p : Ports) (s : State) : (withPorts p s).ports = p := rfl
@[simp] theorem withPorts_upcoming (p : Ports) (s : State) : (withPorts p s).upcoming = s.upcoming := rfl
@[simp] theorem withPorts_booted (p : Ports) (s : State) : (withPorts p s).booted = s.booted := rfl
@[simp] theorem withPorts_draws (p : Ports) (s : State) : (withPorts p s).draws = s.draws := rfl

end Sys2Proof.Machine
end

