-- ==== Sys2Proof/Laws/Ops.lean ====
section
/-!
SUPPORT. What the shared operations can do: acceptance, an edge, a step and a run, each said once.
-/

namespace Sys2Proof.Machine

theorem accept_idle (f : State → State) {s : State} (h : s.st = .idle) : accept f s = .next (f s) := by
  simp [accept, h]

theorem accept_busy (f : State → State) {s : State} (h : s.st ≠ .idle) : accept f s = .next (quietEdge s) := by
  simp [accept, h]

/-- A presented command always answers a next state. -/
theorem accept_answers (f : State → State) (s : State) : ∃ t, accept f s = .next t := by
  unfold accept
  split <;> exact ⟨_, rfl⟩

/-- Every command is an acceptance of some effect. -/
theorem exec_eq_accept (i : Instr) : ∃ f, ∀ s, exec i s = accept f s := by
  cases i <;> exact ⟨_, fun _ => rfl⟩

theorem exec_answers (i : Instr) (s : State) : ∃ t, exec i s = .next t := by
  obtain ⟨f, hf⟩ := exec_eq_accept i
  exact hf s ▸ accept_answers f s

/-- Outside IDLE every command is the state's own edge (R212). -/
theorem exec_busy (i : Instr) {s : State} (h : s.st ≠ .idle) : exec i s = .next (quietEdge s) := by
  obtain ⟨f, hf⟩ := exec_eq_accept i
  rw [hf, accept_busy f h]

/-- The eight outcomes of an accept edge (R213 to R219, R243). -/
theorem exec_idle_cases {i : Instr} {s t : State} (h : s.st = .idle) (he : exec i s = .next t) :
    (i = .nop ∧ t = completeWith .ok s) ∨
    ((i = .rsvd4 ∨ i = .rsvd5) ∧ t = raise .illegalCmd s) ∨
    (∃ k, i = .ldkey k ∧ t = startKeySchedule k false s) ∨
    (∃ m, (i = .enc m ∨ i = .dec m) ∧ s.keyValid = false ∧ t = raise .noKey s) ∨
    (∃ m, i = .enc m ∧ s.keyValid = true ∧ t = startRounds (loadBlock m false s)) ∨
    (∃ m, i = .dec m ∧ s.keyValid = true ∧ t = startRounds (loadBlock m true s)) ∨
    (∃ k m, i = .enck k m ∧ t = startKeySchedule k true (loadBlock m false s)) ∨
    (∃ k m, i = .deck k m ∧ t = startKeySchedule k true (loadBlock m true s)) := by
  cases hk : s.keyValid <;> cases i <;>
    simp [exec, execNop, execLdkey, execEnc, execDec, execRsvd4, execRsvd5, execEnck, execDeck, accept, h, hk] at he <;>
    subst he <;> simp

theorem quietEdge_idle {s : State} (h : s.st = .idle) : quietEdge s = idleEdge s := by simp [quietEdge, h]
theorem quietEdge_ks {s : State} (h : s.st = .ks) : quietEdge s = ksEdge s := by simp [quietEdge, h]
theorem quietEdge_rnd {s : State} (h : s.st = .rnd) : quietEdge s = rndEdge s := by simp [quietEdge, h]
theorem quietEdge_fin {s : State} (h : s.st = .fin) : quietEdge s = finEdge s := by simp [quietEdge, h]

theorem step_reset {s : State} (h : s.ports.rst = true) : step s = .next (driveNext (resetEdge s)) := by
  simp [step, clockEdge, nextCycle, h]

theorem step_unbooted {s : State} (hr : s.ports.rst = false) (hb : s.booted = false) :
    step s = .refused .noResetEdge := by
  simp [step, clockEdge, nextCycle, hr, hb]

/-- An edge at which the engine waits and a command is presented. -/
theorem step_accept {s : State} (hr : s.ports.rst = false) (hb : s.booted = true) (hi : s.st = .idle)
    (hv : s.ports.cmdValid = true) : step s = nextCycle (exec (decode s.ports.command) s) := by
  simp [step, clockEdge, hr, hb, hi, hv]

/-- An edge that takes no command. -/
theorem step_quiet {s : State} (hr : s.ports.rst = false) (hb : s.booted = true)
    (h : ¬(s.st = .idle ∧ s.ports.cmdValid = true)) : step s = .next (driveNext (quietEdge s)) := by
  simp only [step, clockEdge, hr, hb, if_neg h, nextCycle]
  rfl

/-- The three ways a step can answer a next state: a reset edge, an accept edge, or an edge that takes no command. -/
theorem step_cases {s t : State} (h : step s = .next t) :
    (s.ports.rst = true ∧ t = driveNext (resetEdge s)) ∨
    (s.ports.rst = false ∧ s.booted = true ∧ s.st = .idle ∧ s.ports.cmdValid = true ∧
      ∃ u, exec (decode s.ports.command) s = .next u ∧ t = driveNext u) ∨
    (s.ports.rst = false ∧ s.booted = true ∧ ¬(s.st = .idle ∧ s.ports.cmdValid = true) ∧
      t = driveNext (quietEdge s)) := by
  cases hr : s.ports.rst with
  | true =>
    rw [step_reset hr] at h
    exact .inl ⟨rfl, by cases h; rfl⟩
  | false =>
    cases hb : s.booted with
    | false => rw [step_unbooted hr hb] at h; cases h
    | true =>
      by_cases hv : s.st = .idle ∧ s.ports.cmdValid = true
      · rw [step_accept hr hb hv.1 hv.2] at h
        obtain ⟨u, hu⟩ := exec_answers (decode s.ports.command) s
        rw [hu] at h
        cases h
        exact .inr (.inl ⟨rfl, rfl, hv.1, hv.2, u, hu, rfl⟩)
      · rw [step_quiet hr hb hv] at h
        cases h
        exact .inr (.inr ⟨rfl, rfl, hv, rfl⟩)

/-- The same three ways, by the command taken at the edge. -/
theorem step_accepted_cases {s t : State} (h : step s = .next t) :
    (s.ports.rst = true ∧ accepted s = none ∧ t = driveNext (resetEdge s)) ∨
    (s.ports.rst = false ∧ s.st = .idle ∧
      ∃ i u, accepted s = some i ∧ exec i s = .next u ∧ t = driveNext u) ∨
    (s.ports.rst = false ∧ accepted s = none ∧ t = driveNext (quietEdge s)) := by
  rcases step_cases h with ⟨h1, rfl⟩ | ⟨h1, _, h3, h4, u, hu, rfl⟩ | ⟨h1, _, h3, rfl⟩
  · exact .inl ⟨h1, by simp [accepted, h1], rfl⟩
  · exact .inr (.inl ⟨h1, h3, _, u, by simp [accepted, h1, h3, h4], hu, rfl⟩)
  · exact .inr (.inr ⟨h1, by simpa [accepted, h1] using h3, rfl⟩)

theorem steps_zero (s : State) : steps 0 s = .next s := rfl

/-- One step and then n more. -/
theorem steps_succ_of_next {s t : State} (n : Nat) (h : step s = .next t) : steps (n + 1) s = steps n t := by
  have h' : Host.Core.step Sys2Proof.core s = .next t := h
  simp only [steps, Host.Core.run, h']
  rfl

/-- A run of m + n steps is a run of m and then one of n. -/
theorem steps_add_of_next {s t : State} (m n : Nat) (h : steps m s = .next t) : steps (m + n) s = steps n t := by
  induction m generalizing s with
  | zero => cases h; simp
  | succ m ih =>
    cases hs : step s with
    | next u =>
      rw [steps_succ_of_next m hs] at h
      rw [Nat.add_right_comm, steps_succ_of_next (m + n) hs]
      exact ih h
    | fault f => cases f
    | refused r =>
      have h' : Host.Core.step Sys2Proof.core s = .refused r := hs
      simp [steps, Host.Core.run, h'] at h

/-- After one cycle the host's future has moved up by one. -/
theorem portsAt_driveNext (s : State) (j : Nat) : portsAt (driveNext s) j = portsAt s (j + 1) := by
  cases hu : s.upcoming with
  | nil => cases j <;> simp [portsAt, hu]
  | cons p ps => simp [portsAt, hu]

/-- The host's future depends on the ports and on what is to come, and on nothing else. -/
theorem portsAt_congr {s t : State} (hp : s.ports = t.ports) (hu : s.upcoming = t.upcoming) (j : Nat) :
    portsAt s j = portsAt t j := by
  simp [portsAt, hp, hu]

theorem NoResetFor.now {n : Nat} {s : State} (h : NoResetFor (n + 1) s) : s.ports.rst = false :=
  h 0 (Nat.succ_pos n)

theorem NoResetFor.next {n : Nat} {s : State} (h : NoResetFor (n + 1) s) : NoResetFor n (driveNext s) := by
  intro j hj
  rw [portsAt_driveNext]
  exact h (j + 1) (Nat.succ_lt_succ hj)

end Sys2Proof.Machine
end

