-- ==== Sys2Proof/Laws/PerInstr.lean ====
section
/-!
SUPPORT. The per-instruction family Encoding: the encoder drives the opcode of the opcode map and 0 on unread operands (R82, R87).
-/

namespace Sys2Proof.Laws.Encoding

/-- The encoding of a well-formed command is in host-script form, and reading its operands again changes nothing. -/
def Statement (i : Instr) : Prop :=
  i.wellFormed = true ∧ (encode i).wellFormed = true ∧ (encode i).canonical = encode i

theorem nop : Statement .nop := by refine ⟨rfl, ?_, ?_⟩ <;> decide
theorem ldkey (k : Block) : Statement (.ldkey k) := ⟨rfl, rfl, rfl⟩
theorem enc (m : Block) : Statement (.enc m) := ⟨rfl, rfl, rfl⟩
theorem dec (m : Block) : Statement (.dec m) := ⟨rfl, rfl, rfl⟩
theorem rsvd4 : Statement .rsvd4 := by refine ⟨rfl, ?_, ?_⟩ <;> decide
theorem rsvd5 : Statement .rsvd5 := by refine ⟨rfl, ?_, ?_⟩ <;> decide
theorem enck (k m : Block) : Statement (.enck k m) := ⟨rfl, rfl, rfl⟩
theorem deck (k m : Block) : Statement (.deck k m) := ⟨rfl, rfl, rfl⟩

end Sys2Proof.Laws.Encoding
end

