-- ==== Sys2Proof/Tests/Slice0.lean ====
section
/-!
SUPPORT. Tests of the model. Expected values are the spec's own (95_test_vectors.md and the examples beside the rules).
First the functions and the decoder, then single edges, then for every statement with hypotheses a state that meets them.
-/

namespace Sys2Proof.Tests

open Sys2Proof.Machine

/-- The key of the known-answer vector (95 section 2). -/
def K : Block := 0x133457799BBCDFF1#64

/-- The plaintext of the known-answer vector. -/
def M : Block := 0x0123456789ABCDEF#64

/-- Its ciphertext. -/
def X : Block := 0x85E813540F0AB405#64

/-! Bit fields (95 section 6.1) -/

theorem test_bit_positions :
    bit 0x8000000000000000#64 1 = true ∧ bit 0x8000000000000000#64 64 = false ∧ bit 1#64 64 = true ∧
    bit 0x6117BA866527#48 1 = false ∧ bit 0x6117BA866527#48 48 = true := by decide

theorem test_bitRange :
    bitRange 0x6117BA866527#48 6 6 = 0b011000#6 ∧ bitRange 0x6117BA866527#48 6 12 = 0b010001#6 ∧
    bitRange 0x6117BA866527#48 6 48 = 0b100111#6 ∧ bitRange 0b011000#6 4 5 = 0b1100#4 ∧
    bitRange 0b011000#6 2 6 = 0b00#2 ∧ bitRange M 1 1 = 0#1 := by decide

theorem test_rotl28 :
    rotl28 0xF0CCAAF#28 1 = 0xE19955F#28 ∧ rotl28 0xF0CCAAF#28 2 = 0xC332ABF#28 ∧
    rotl28 0x8000000#28 1 = 0x0000001#28 ∧ rotl28 0xC000000#28 2 = 0x0000003#28 := by decide

theorem test_permute_width_and_repeats :
    permute #v[1, 1, 1, 1] M = 0x0#4 ∧ permute #v[64, 63, 62, 61] M = 0xF#4 := by decide

theorem test_halves : hi32 M = 0x01234567#32 ∧ lo32 M = 0x89ABCDEF#32 ∧ join32 0x01234567#32 0x89ABCDEF#32 = M ∧
    hi28 0xF0CCAAF556678F#56 = 0xF0CCAAF#28 ∧ lo28 0xF0CCAAF556678F#56 = 0x556678F#28 := by decide

/-! Tables (95 section 6.2, R137) -/

theorem test_tableIP : permute tableIP 0x8000000000000000#64 = 0x0000000001000000#64 ∧
    permute tableIP 1#64 = 0x0000008000000000#64 ∧
    permute tableIP 0xAAAAAAAAAAAAAAAA#64 = 0x00000000FFFFFFFF#64 := by decide +kernel

theorem test_tableIPinv : permute tableIPinv 0x8000000000000000#64 = 0x0000000000000040#64 ∧
    permute tableIPinv 1#64 = 0x0200000000000000#64 ∧
    permute tableIPinv 0xAAAAAAAAAAAAAAAA#64 = 0x00FF00FF00FF00FF#64 := by decide +kernel

theorem test_tablePC1 : permute tablePC1 0x8000000000000000#64 = 0x01000000000000#56 ∧
    permute tablePC1 1#64 = 0#56 ∧ permute tablePC1 0x0101010101010101#64 = 0#56 ∧
    permute tablePC1 K = 0xF0CCAAF556678F#56 := by decide +kernel

theorem test_tablePC2 : permute tablePC2 0x80000000000000#56 = 0x080000000000#48 ∧
    permute tablePC2 1#56 = 0x000000000100#48 ∧ permute tablePC2 0xFFFFFFF0000000#56 = 0xFFFFFF000000#48 ∧
    permute tablePC2 0x0000000FFFFFFF#56 = 0x000000FFFFFF#48 := by decide +kernel

theorem test_tableE : permute tableE 0x80000000#32 = 0x400000000001#48 ∧
    permute tableE 1#32 = 0x800000000002#48 ∧ permute tableE 0xF0AAF0AA#32 = 0x7A15557A1555#48 := by decide +kernel

theorem test_tableP : permute tableP 0x80000000#32 = 0x00800000#32 ∧
    permute tableP 1#32 = 0x00000800#32 ∧ permute tableP 0xAAAAAAAA#32 = 0x59EA07C5#32 := by decide +kernel

/-- R137 (a), (d), (e), and the positions PC-1 and PC-2 leave out (R123, R124). -/
theorem test_table_entries :
    (∀ n ∈ List.range 64, tableIP.toList.count (n + 1) = 1 ∧ tableIPinv.toList.count (n + 1) = 1 ∧
      (tablePC1.toList ++ [8, 16, 24, 32, 40, 48, 56, 64]).count (n + 1) = 1) ∧
    (∀ n ∈ List.range 56, (tablePC2.toList ++ [9, 18, 22, 25, 35, 38, 43, 54]).count (n + 1) = 1) ∧
    (∀ n ∈ List.range 32, tableP.toList.count (n + 1) = 1 ∧ n + 1 ∈ tableE.toList) := by decide +kernel

/-- R137 (c): each row of each S-box is a permutation of 0..15. -/
theorem test_sbox_rows : ∀ (j : Fin 8) (row : BitVec 2),
    ((List.range 16).map fun c => sboxAt j row (BitVec.ofNat 4 c)).Nodup := by decide +kernel

/-- The corner values of R175. -/
theorem test_sbox_corners :
    substitute 0x000000000000#48 = 0xEFA72C4D#32 ∧ substitute 0xFFFFFFFFFFFF#48 = 0xD9CE3DCB#32 ∧
    substitute (BitVec.ofNat 48 0x6DB6DB6DB6DB) = 0x59BA9BFE#32 ∧
    substitute 0x861861861861#48 = 0xFD13B462#32 ∧ substitute 0x79E79E79E79E#48 = 0x7A8F9B17#32 := by
  decide +kernel

/-! Key schedule, round function and cipher (95 sections 2 to 6.5) -/

theorem test_keySchedule_ends : (keySchedule K)[0] = 0x1B02EFFC7072#48 ∧ (keySchedule K)[8] = 0xE0DBEBEDE781#48 ∧
    (keySchedule K)[15] = 0xCB3D8B0E17F5#48 := by decide +kernel

theorem test_keySchedule_single_bit : (keySchedule 0x8000000000000000#64)[0] = 0x000010000000#48 ∧
    (keySchedule 0x8000000000000000#64)[1] = 0x004000000000#48 ∧
    (keySchedule 0x8000000000000000#64)[7] = 0#48 := by decide +kernel

theorem test_roundFunction : roundFunction 0xF0AAF0AA#32 0x1B02EFFC7072#48 = 0x234AA9BB#32 ∧
    roundFunction 0#32 0#48 = 0xD8D8DBBC#32 ∧ roundFunction 0#32 0x800000000000#48 = 0xD858D9BC#32 ∧
    roundFunction 0x12345678#32 0x0123456789AB#48 = 0xCA23B070#32 := by decide +kernel

theorem test_crypt_known_answer : crypt (keySchedule K) M = X := by decide +kernel

theorem test_decrypt_known_answer : decrypt K X = M := by decide +kernel

/-- V8 and V9 of 95 section 3. -/
theorem test_crypt_standard_vectors :
    crypt (keySchedule 0xFEDCBA9876543210#64) M = 0xED39D950FA74BCC4#64 ∧
    crypt (keySchedule 0x0E329232EA6D0D73#64) 0x8787878787878787#64 = 0#64 := by decide +kernel

/-- R191, and the first and last round of 95 section 2.2. -/
theorem test_blockHalves : blockHalves (keySchedule K) M 0 = (0xCC00CCFF#32, 0xF0AAF0AA#32) ∧
    blockHalves (keySchedule K) M 1 = (0xF0AAF0AA#32, 0xEF4A6544#32) ∧
    blockHalves (keySchedule K) M 16 = (0x43423234#32, 0x0A4CD995#32) := by decide +kernel

/-! Decoding: each opcode written out from the map of R82 -/

theorem test_decode_nop : decode ⟨0b000#3, K, M⟩ = .nop ∧ encode .nop = ⟨0b000#3, 0, 0⟩ := by decide
theorem test_decode_ldkey : decode ⟨0b001#3, K, M⟩ = .ldkey K ∧ encode (.ldkey K) = ⟨0b001#3, K, 0⟩ := by decide
theorem test_decode_enc : decode ⟨0b010#3, K, M⟩ = .enc M ∧ encode (.enc M) = ⟨0b010#3, 0, M⟩ := by decide
theorem test_decode_dec : decode ⟨0b011#3, K, M⟩ = .dec M ∧ encode (.dec M) = ⟨0b011#3, 0, M⟩ := by decide
theorem test_decode_rsvd4 : decode ⟨0b100#3, K, M⟩ = .rsvd4 ∧ encode .rsvd4 = ⟨0b100#3, 0, 0⟩ := by decide
theorem test_decode_rsvd5 : decode ⟨0b101#3, K, M⟩ = .rsvd5 ∧ encode .rsvd5 = ⟨0b101#3, 0, 0⟩ := by decide
theorem test_decode_enck : decode ⟨0b110#3, K, M⟩ = .enck K M ∧ encode (.enck K M) = ⟨0b110#3, K, M⟩ := by decide
theorem test_decode_deck : decode ⟨0b111#3, K, M⟩ = .deck K M ∧ encode (.deck K M) = ⟨0b111#3, K, M⟩ := by decide

theorem test_decodeTableWord : (List.range 8).map (decodeTableWord 8) =
    [some .nop, some (.ldkey 0), some (.enc 0), some (.dec 0), some .rsvd4, some .rsvd5,
      some (.enck 0 0), some (.deck 0 0)] := by decide

/-- Ill-formed commands, one for each check: an operand that the command does not read is not 0 (R87). -/
theorem test_wellFormed_refuses :
    (Command.wellFormed ⟨0b000#3, 1, 0⟩ = false ∧ Command.wellFormed ⟨0b000#3, 0, 1⟩ = false) ∧
    (Command.wellFormed ⟨0b001#3, K, 1⟩ = false) ∧
    (Command.wellFormed ⟨0b010#3, 1, M⟩ = false ∧ Command.wellFormed ⟨0b011#3, 1, M⟩ = false) ∧
    (Command.wellFormed ⟨0b100#3, 1, 0⟩ = false ∧ Command.wellFormed ⟨0b100#3, 0, 1⟩ = false) ∧
    (Command.wellFormed ⟨0b101#3, 1, 0⟩ = false ∧ Command.wellFormed ⟨0b101#3, 0, 1⟩ = false) := by decide

theorem test_wellFormed_accepts : Command.wellFormed ⟨0b001#3, K, 0⟩ = true ∧
    Command.wellFormed ⟨0b010#3, 0, M⟩ = true ∧ Command.wellFormed ⟨0b110#3, K, M⟩ = true := by decide

/-! Small states. -/

/-- An engine after reset with every register at a value a test can see, and the known-answer values in the halves. -/
def base : State :=
  { st := .idle, cnt := 0, dec := false, chain := false, keyValid := false, doutValid := false, done := false,
    err := .ok, L := 0xCC00CCFF#32, R := 0xF0AAF0AA#32, C := 0xF0CCAAF#28, D := 0x556678F#28, DOUT := 0,
    RK := Vector.replicate 16 0x1B02EFFC7072#48, ports := Ports.quiet, upcoming := [], booted := true, draws := 0 }

/-- The host presents i to an engine that holds a key or not. -/
def offer (i : Instr) (keyValid : Bool) : State :=
  { base with keyValid := keyValid, ports := Ports.present (encode i) 0 }

/-- An engine in the FSM state and step given. -/
def busy (st : Phase) (cnt : Counter) (chain dec : Bool) : State :=
  { base with st := st, cnt := cnt, chain := chain, dec := dec }

/-- A field of the state a step answers. -/
def after {α : Type} (f : State → α) : Host.Outcome State Fault Refusal → Option α
  | .next t => some (f t)
  | .fault _ => none
  | .refused _ => none

/-! Accept edges (95 section 6.6) -/

theorem test_exec_nop : after (fun t => (t.st, t.err, t.done)) (step (offer .nop false)) =
    some (.idle, .ok, true) := by decide
theorem test_exec_rsvd4 : after (fun t => (t.st, t.err, t.done, t.keyValid)) (step (offer .rsvd4 true)) =
    some (.idle, .illegalCmd, true, true) := by decide
theorem test_exec_rsvd5 : after (fun t => (t.st, t.err, t.done, t.keyValid)) (step (offer .rsvd5 true)) =
    some (.idle, .illegalCmd, true, true) := by decide
theorem test_exec_ldkey : after (fun t => (t.st, t.cnt, t.chain, t.keyValid, t.done))
    (step (offer (.ldkey K) true)) = some (.ks, 0, false, false, false) := by decide
theorem test_exec_enc : after (fun t => (t.st, t.dec, t.L, t.R)) (step (offer (.enc M) true)) =
    some (.rnd, false, 0xCC00CCFF#32, 0xF0AAF0AA#32) := by decide +kernel
theorem test_exec_enc_no_key : after (fun t => (t.st, t.err, t.done)) (step (offer (.enc M) false)) =
    some (.idle, .noKey, true) := by decide
theorem test_exec_dec : after (fun t => (t.st, t.dec, t.L, t.R)) (step (offer (.dec X) true)) =
    some (.rnd, true, 0x0A4CD995#32, 0x43423234#32) := by decide +kernel
theorem test_exec_dec_no_key : after (fun t => (t.st, t.err, t.done)) (step (offer (.dec X) false)) =
    some (.idle, .noKey, true) := by decide
theorem test_exec_enck : after (fun t => (t.st, t.chain, t.dec, join28 t.C t.D, join32 t.L t.R)) (step (offer (.enck K M) true)) =
    some (.ks, true, false, 0xF0CCAAF556678F#56, 0xCC00CCFFF0AAF0AA#64) := by decide +kernel
theorem test_exec_deck : after (fun t => (t.st, t.chain, t.dec, join28 t.C t.D, join32 t.L t.R)) (step (offer (.deck K X) true)) =
    some (.ks, true, true, 0xF0CCAAF556678F#56, 0x0A4CD99543423234#64) := by decide +kernel

/-- What the host asks of withFetchWord: the next step runs the command of the table's word. -/
theorem test_withFetchWord : (List.range 8).map (fun w =>
      after (fun t => (t.st, t.err)) (step (State.reset.withFetchWord 8 w))) =
    [some (.idle, .ok), some (.ks, .ok), some (.idle, .noKey), some (.idle, .noKey), some (.idle, .illegalCmd),
      some (.idle, .illegalCmd), some (.ks, .ok), some (.ks, .ok)] := by decide

/-! Edges of the busy states (the examples of R158, R198, R199) -/

theorem test_ksEdge : after (fun t => (t.C, t.D, t.RK[0], t.cnt, t.st)) (step (busy .ks 0 false false)) =
    some (0xE19955F#28, 0xAACCF1E#28, 0x1B02EFFC7072#48, 1, .ks) := by decide +kernel

theorem test_ksEdge_last : after (fun t => (t.st, t.cnt, t.keyValid, t.done)) (step (busy .ks 15 false false)) =
      some (.idle, 0, true, true) ∧
    after (fun t => (t.st, t.cnt, t.keyValid, t.done)) (step (busy .ks 15 true false)) =
      some (.rnd, 0, true, false) := by decide +kernel

theorem test_rndEdge : after (fun t => (t.L, t.R, t.cnt, t.st)) (step (busy .rnd 0 false false)) =
    some (0xF0AAF0AA#32, 0xEF4A6544#32, 1, .rnd) := by decide +kernel

theorem test_finEdge : after (fun t => (t.DOUT, t.doutValid, t.done, t.st))
      (step { busy .fin 0 false false with L := 0x43423234#32, R := 0x0A4CD995#32 }) =
    some (X, true, true, .idle) := by decide +kernel

theorem test_selectKey : selectKey ((base.RK.set 0 1#48).set 15 2#48) false 0 = 1#48 ∧
    selectKey ((base.RK.set 0 1#48).set 15 2#48) true 0 = 2#48 ∧
    selectKey ((base.RK.set 0 1#48).set 15 2#48) true 15 = 1#48 := by decide

/-- The first edge needs a reset (R42). -/
theorem test_noResetEdge : step { base with booted := false } = .refused .noResetEdge := rfl

theorem test_resetEdge : after (fun t => (t.st, t.keyValid, t.done, t.err, t.DOUT))
    (step { busy .ks 5 true true with DOUT := X, ports := { Ports.quiet with rst := true } }) =
    some (.idle, false, false, .ok, 0) := by decide

/-- A host script with no line left goes on until the command in work completes, and then stops (R221). -/
theorem test_hostScript_end :
    (match HostRun.cycle { state := busy .fin 0 false false, todo := [], samples := [] } with
      | .next h => some (h.state.st, h.ended)
      | .fault _ => none
      | .refused _ => none) = some (.idle, true) ∧
    HostRun.ended { state := busy .fin 0 false false, todo := [], samples := [] } = false := by decide

/-- What a host script drives after an edge: no command, and `rk_sel` where it was, also after RESET (log entry 14). -/
theorem test_hostScript_rk_sel :
    (match HostRun.cycle ⟨{ base with ports := Ports.hold 7, upcoming := [Ports.hold 3] },
        [.reset, .command .nop], []⟩ with
      | .next h => some (h.state.ports, h.todo)
      | .fault _ => none
      | .refused _ => none) = some (Ports.hold 7, [.command .nop]) := by decide

/-! Witnesses: for each statement with hypotheses, states and operands that meet them. -/

theorem test_witness_DecodeAndEncodeAgree :
    (⟨0b001#3, K, M⟩ : Command).canonical = (⟨0b001#3, K, X⟩ : Command).canonical ∧
    (⟨0b001#3, K, M⟩ : Command) ≠ ⟨0b001#3, K, X⟩ := by decide

theorem test_witness_UnreadOperandsHaveNoEffect :
    (offer .nop false).ports.cmdOp = 0b000#3 ∧ (offer .rsvd4 false).ports.cmdOp = 0b100#3 ∧
    (offer .rsvd5 false).ports.cmdOp = 0b101#3 ∧ (offer (.enc M) true).ports.cmdOp = 0b010#3 ∧
    (offer (.dec M) true).ports.cmdOp = 0b011#3 ∧ (offer (.ldkey K) true).ports.cmdOp = 0b001#3 := by decide

/-- Every command can be presented to a ready engine that has been reset. -/
theorem offer_meets (i : Instr) (keyValid : Bool) :
    Ready (offer i keyValid) ∧ Presents i (offer i keyValid) ∧ (offer i keyValid).keyValid = keyValid ∧
      ∀ n, NoResetFor n (offer i keyValid) := by
  refine ⟨⟨rfl, rfl⟩, ⟨rfl, rfl, ?_⟩, rfl, ?_⟩
  · cases i <;> rfl
  · intro n j _
    cases j <;> rfl

theorem test_witness_StepRunsThePresentedCommand :
    (offer (.enc M) true).booted = true ∧ Presents (.enc M) (offer (.enc M) true) :=
  ⟨rfl, (offer_meets _ _).2.1⟩

theorem test_witness_BusyEngineSamplesNoCommand :
    (busy .rnd 5 false false).st ≠ .idle ∧ (offer .nop true).ports.rst = (offer (.ldkey K) true).ports.rst ∧
    (busy .rnd 5 false false).ports.rst = false ∧ ∃ t, step (busy .rnd 5 false false) = .next t :=
  ⟨by decide, rfl, rfl, _, rfl⟩

theorem test_witness_OnlyAStepBeforeTheFirstResetIsRefused :
    (({ base with booted := false } : State).booted = false ∧
      ({ base with booted := false } : State).ports.rst = false) ∧
    base.booted = true ∧
    ({ base with booted := false, ports := { Ports.quiet with rst := true } } : State).ports.rst = true :=
  ⟨⟨rfl, rfl⟩, rfl, rfl⟩

theorem test_witness_IdleEdgeOnlyClearsDone :
    base.booted = true ∧ base.ports.rst = false ∧ base.st = .idle ∧ base.ports.cmdValid = false :=
  ⟨rfl, rfl, rfl, rfl⟩

/-- For the KS, RND and FIN edges, at both ends of `cnt`, both directions, and with and without a block to follow. -/
theorem test_witness_busy_edges : ∀ (st : Phase) (cnt : Counter) (chain dec : Bool),
    (busy st cnt chain dec).booted = true ∧ (busy st cnt chain dec).ports.rst = false ∧
    (busy st cnt chain dec).st = st ∧ (busy st cnt chain dec).cnt = cnt ∧
    (busy st cnt chain dec).chain = chain ∧ (busy st cnt chain dec).dec = dec :=
  fun _ _ _ _ => ⟨rfl, rfl, rfl, rfl, rfl, rfl⟩

theorem test_witness_KsEdgeRunsOneKeyScheduleRound :
    (busy .ks 15 true false).booted = true ∧ (busy .ks 15 true false).ports.rst = false ∧
    (busy .ks 15 true false).st = .ks ∧ (busy .ks 0 false false).st = .ks := ⟨rfl, rfl, rfl, rfl⟩

theorem test_witness_RndEdgeRunsOneFeistelRound :
    (busy .rnd 15 true true).booted = true ∧ (busy .rnd 15 true true).ports.rst = false ∧
    (busy .rnd 15 true true).st = .rnd ∧ (busy .rnd 0 false false).st = .rnd := ⟨rfl, rfl, rfl, rfl⟩

theorem test_witness_FinEdgeDeliversTheResult :
    (busy .fin 0 true true).booted = true ∧ (busy .fin 0 true true).ports.rst = false ∧
    (busy .fin 0 true true).st = .fin := ⟨rfl, rfl, rfl⟩

/-- The engine in KS, half way through a key schedule, with a reset on the ports. -/
def resetInKs : State := { busy .ks 5 false false with ports := { Ports.quiet with rst := true } }

theorem test_witness_ResetEdgeGivesTheResetValues : resetInKs.ports.rst = true := rfl

theorem test_witness_ResetDuringAKeyScheduleLosesTheKey :
    resetInKs.st = .ks ∧ resetInKs.ports.rst = true ∧ ∃ t, step resetInKs = .next t := ⟨rfl, rfl, _, rfl⟩

/-- For NOP, the reserved opcodes, LDKEY, ENCK and DECK. -/
theorem test_witness_accept_edges : base.st = .idle := rfl

/-- For the accept edges of ENC and DEC, with and without a key. -/
theorem test_witness_accept_edges_by_key :
    ((offer (.enc M) true).st = .idle ∧ (offer (.enc M) true).keyValid = true) ∧
    ((offer (.enc M) false).st = .idle ∧ (offer (.enc M) false).keyValid = false) := ⟨⟨rfl, rfl⟩, rfl, rfl⟩

theorem test_witness_ErrorsArePrecise :
    base.st = .idle ∧ acceptErr base.keyValid .rsvd4 ≠ .ok ∧ acceptErr base.keyValid (.enc M) ≠ .ok ∧
    ∃ t, exec .rsvd4 base = .next t := ⟨rfl, by decide, by decide, _, rfl⟩

/-- A command that loads no key, one that processes no block, and one that does neither. -/
theorem test_witness_AcceptEdgesKeepWhatTheyDoNotName :
    base.st = .idle ∧ (∃ t, exec (.enc M) base = .next t) ∧ loadedKey (.enc M) = none ∧
    (∃ t, exec (.ldkey K) base = .next t) ∧ blockOperation (.ldkey K) = none ∧
    (∃ t, exec .nop base = .next t) ∧ loadedKey .nop = none ∧ blockOperation .nop = none :=
  ⟨rfl, ⟨_, rfl⟩, rfl, ⟨_, rfl⟩, rfl, ⟨_, rfl⟩, rfl, rfl⟩

/-- The rules over every edge ask only for a next state: one in each FSM state, with and without a command, and on reset. -/
theorem test_witness_every_edge :
    (∃ t, step base = .next t) ∧ (∀ i keyValid, ∃ t, step (offer i keyValid) = .next t) ∧
    (∀ cnt chain dec, ∃ t, step (busy .ks cnt chain dec) = .next t) ∧
    (∀ cnt chain dec, ∃ t, step (busy .rnd cnt chain dec) = .next t) ∧
    (∃ t, step (busy .fin 0 false false) = .next t) ∧ (∃ t, step resetInKs = .next t) := by
  refine ⟨⟨_, rfl⟩, ?_, fun _ _ _ => ⟨_, rfl⟩, fun _ _ _ => ⟨_, rfl⟩, ⟨_, rfl⟩, _, rfl⟩
  intro i keyValid
  cases i <;> exact ⟨_, rfl⟩

theorem test_witness_DirectionAndChainAreSetAtAcceptEdges :
    (offer (.deck K X) false).ports.rst = false ∧ ∃ t, step (offer (.deck K X) false) = .next t := ⟨rfl, _, rfl⟩

/-- RND edge; accept edge that loads a block; an edge that does neither (an ENC with no key). -/
theorem test_witness_HalfBlocksAreWrittenByAcceptAndRndEdges :
    ((busy .rnd 0 false false).ports.rst = false ∧ (busy .rnd 0 false false).st = .rnd ∧
      ∃ t, step (busy .rnd 0 false false) = .next t) ∧
    ((offer (.enc M) true).ports.rst = false ∧ (∃ t, step (offer (.enc M) true) = .next t) ∧
      accepted (offer (.enc M) true) = some (.enc M) ∧ blockOperation (.enc M) = some (false, M) ∧
      acceptErr (offer (.enc M) true).keyValid (.enc M) = .ok) ∧
    ((offer (.enc M) false).ports.rst = false ∧ (∃ t, step (offer (.enc M) false) = .next t) ∧
      (offer (.enc M) false).st ≠ .rnd ∧ accepted (offer (.enc M) false) = some (.enc M) ∧
      acceptErr (offer (.enc M) false).keyValid (.enc M) ≠ .ok) :=
  ⟨⟨rfl, rfl, _, rfl⟩, ⟨rfl, ⟨_, rfl⟩, rfl, rfl, rfl⟩, rfl, ⟨_, rfl⟩, by decide, rfl, by decide⟩

/-- KS edge; accept edge that loads a key; an edge that does neither. -/
theorem test_witness_KeyHalvesAreWrittenByAcceptAndKsEdges :
    ((busy .ks 15 false false).ports.rst = false ∧ (busy .ks 15 false false).st = .ks ∧
      ∃ t, step (busy .ks 15 false false) = .next t) ∧
    ((offer (.ldkey K) true).ports.rst = false ∧ (∃ t, step (offer (.ldkey K) true) = .next t) ∧
      accepted (offer (.ldkey K) true) = some (.ldkey K) ∧ loadedKey (.ldkey K) = some K) ∧
    ((offer .nop true).ports.rst = false ∧ (∃ t, step (offer .nop true) = .next t) ∧
      (offer .nop true).st ≠ .ks ∧ accepted (offer .nop true) = some .nop ∧ loadedKey .nop = none) :=
  ⟨⟨rfl, rfl, _, rfl⟩, ⟨rfl, ⟨_, rfl⟩, rfl, rfl⟩, rfl, ⟨_, rfl⟩, by decide, rfl, rfl⟩

/-- A KS edge at the last entry with another entry beside it, and an edge that is none. -/
theorem test_witness_RoundKeysAreWrittenOnlyByKsEdges :
    ((busy .ks 15 true false).ports.rst = false ∧ (busy .ks 15 true false).st = .ks ∧
      (∃ t, step (busy .ks 15 true false) = .next t) ∧ (0 : Fin 16).val ≠ (busy .ks 15 true false).cnt.toNat) ∧
    ((busy .fin 0 true false).ports.rst = false ∧ (busy .fin 0 true false).st ≠ .ks ∧
      ∃ t, step (busy .fin 0 true false) = .next t) :=
  ⟨⟨rfl, rfl, ⟨_, rfl⟩, by decide⟩, rfl, by decide, _, rfl⟩

/-- The last KS edge, the host selecting entry 16 in the cycle after it. -/
theorem test_witness_RkOutShowsTheSelectedEntry :
    base.ports.rkSel = 0 ∧
    ∃ t, step { busy .ks 15 true false with upcoming := [Ports.hold 15] } = .next t ∧
      ({ busy .ks 15 true false with upcoming := [Ports.hold 15] } : State).ports.rst = false ∧
      ({ busy .ks 15 true false with upcoming := [Ports.hold 15] } : State).st = .ks ∧ t.ports.rkSel = 15 :=
  ⟨rfl, _, rfl, rfl, rfl, rfl⟩

/-- Two keys that differ in every parity position and nowhere else (95 section 6.3). -/
theorem test_witness_ParityBitsHaveNoEffect :
    K ≠ 0x123556789ABDDEF0#64 ∧
    ∀ n, 1 ≤ n → n ≤ 64 → n % 8 ≠ 0 → bit K n = bit 0x123556789ABDDEF0#64 n := by
  refine ⟨by decide, fun n _ h => ?_⟩
  have key : ∀ j : Fin 65, j.val % 8 ≠ 0 → bit K j.val = bit 0x123556789ABDDEF0#64 j.val := by decide
  exact key ⟨n, by omega⟩

theorem test_witness_SelfReverseKeysEncryptTwiceToTheBlock :
    ((0xE0E0E0E0F1F1F1F1#64 : Block) = 0x0101010101010101#64 ∨
      (0xE0E0E0E0F1F1F1F1#64 : Block) = 0xFEFEFEFEFEFEFEFE#64 ∨
      (0xE0E0E0E0F1F1F1F1#64 : Block) = 0x1F1F1F1F0E0E0E0E#64 ∨
      (0xE0E0E0E0F1F1F1F1#64 : Block) = 0xE0E0E0E0F1F1F1F1#64) ∧
    (keySchedule 0x1F1F1F1F0E0E0E0E#64)[0] = 0x000000FFFFFF#48 := by decide +kernel

theorem test_witness_LdkeyDerivesTheKeySchedule :
    Ready (offer (.ldkey K) true) ∧ Presents (.ldkey K) (offer (.ldkey K) true) ∧
    NoResetFor 17 (offer (.ldkey K) true) :=
  ⟨(offer_meets _ _).1, (offer_meets _ _).2.1, (offer_meets _ _).2.2.2 17⟩

theorem test_witness_EncEncryptsWithTheStoredKeys :
    Ready (offer (.enc M) true) ∧ Presents (.enc M) (offer (.enc M) true) ∧
    (offer (.enc M) true).keyValid = true ∧ NoResetFor 18 (offer (.enc M) true) :=
  ⟨(offer_meets _ _).1, (offer_meets _ _).2.1, rfl, (offer_meets _ _).2.2.2 18⟩

theorem test_witness_DecDecryptsWithTheStoredKeys :
    Ready (offer (.dec X) true) ∧ Presents (.dec X) (offer (.dec X) true) ∧
    (offer (.dec X) true).keyValid = true ∧ NoResetFor 18 (offer (.dec X) true) :=
  ⟨(offer_meets _ _).1, (offer_meets _ _).2.1, rfl, (offer_meets _ _).2.2.2 18⟩

theorem test_witness_EnckLoadsAKeyAndEncrypts :
    Ready (offer (.enck K M) false) ∧ Presents (.enck K M) (offer (.enck K M) false) ∧
    NoResetFor 34 (offer (.enck K M) false) :=
  ⟨(offer_meets _ _).1, (offer_meets _ _).2.1, (offer_meets _ _).2.2.2 34⟩

theorem test_witness_DeckLoadsAKeyAndDecrypts :
    Ready (offer (.deck K X) false) ∧ Presents (.deck K X) (offer (.deck K X) false) ∧
    NoResetFor 34 (offer (.deck K X) false) :=
  ⟨(offer_meets _ _).1, (offer_meets _ _).2.1, (offer_meets _ _).2.2.2 34⟩

/-- Every command, and an edge strictly before the completing one. -/
theorem test_witness_EveryCommandCompletesAtItsLatency : (∀ i keyValid,
      Ready (offer i keyValid) ∧ Presents i (offer i keyValid) ∧
      NoResetFor (latency keyValid i) (offer i keyValid)) ∧
    0 < 33 ∧ 33 < latency false (.deck K X) :=
  ⟨fun i b => ⟨(offer_meets i b).1, (offer_meets i b).2.1, (offer_meets i b).2.2.2 _⟩, by decide, by decide⟩

/-- A ready engine that takes the command at once, and the engine with the longest wait. -/
theorem test_witness_HeldCommandIsTakenWithinThirtyThreeEdges :
    ((offer (.ldkey K) true).booted = true ∧
      (portsAt (offer (.ldkey K) true) 0).rst = false ∧ (portsAt (offer (.ldkey K) true) 0).cmdValid = true) ∧
    (({ busy .ks 0 true false with
        ports := Ports.present (encode .nop) 0
        upcoming := List.replicate 33 (Ports.present (encode .nop) 0) } : State).booted = true ∧
      ∀ j, j ≤ 33 → (fun p : Ports => p.rst = false ∧ p.cmdValid = true ∧ decode p.command = .nop)
        (portsAt { busy .ks 0 true false with
          ports := Ports.present (encode .nop) 0
          upcoming := List.replicate 33 (Ports.present (encode .nop) 0) } j)) := by
  refine ⟨⟨rfl, rfl, rfl⟩, rfl, fun j h => ?_⟩
  have key : ∀ j : Fin 34, (List.replicate 34 (Ports.present (encode .nop) 0)).getD j.val Ports.quiet =
      Ports.present (encode .nop) 0 := by decide
  have hp := key ⟨j, by omega⟩
  simp only [portsAt] at *
  rw [show (Ports.present (encode .nop) 0 :: List.replicate 33 (Ports.present (encode .nop) 0)) =
    List.replicate 34 (Ports.present (encode .nop) 0) from rfl, hp]
  decide

/-- At the accept edge (i = 0) and at the last KS edge (i = 16). -/
theorem test_witness_KeyScheduleFillsTheStoreInOrder :
    loadedKey (.enck K M) = some K ∧ Ready (offer (.enck K M) true) ∧ Presents (.enck K M) (offer (.enck K M) true) ∧
    0 ≤ 16 ∧ 16 ≤ 16 ∧ NoResetFor (1 + 0) (offer (.enck K M) true) ∧ NoResetFor (1 + 16) (offer (.enck K M) true) :=
  ⟨rfl, (offer_meets _ _).1, (offer_meets _ _).2.1, by decide, by decide, (offer_meets _ _).2.2.2 _,
    (offer_meets _ _).2.2.2 _⟩

/-- ENC with a key at j = 16, and DECK with none loaded at j = 0. -/
theorem test_witness_TraceShowsEveryRound :
    (blockOperation (.enc M) = some (false, M) ∧ Ready (offer (.enc M) true) ∧ Presents (.enc M) (offer (.enc M) true) ∧
      (loadedKey (.enc M) = none → (offer (.enc M) true).keyValid = true) ∧
      NoResetFor ((loadedKey (.enc M)).elim 1 (fun _ => 17) + 16) (offer (.enc M) true)) ∧
    (blockOperation (.deck K X) = some (true, X) ∧ Ready (offer (.deck K X) false) ∧
      Presents (.deck K X) (offer (.deck K X) false) ∧
      (loadedKey (.deck K X) = none → (offer (.deck K X) false).keyValid = true) ∧
      NoResetFor ((loadedKey (.deck K X)).elim 1 (fun _ => 17) + 0) (offer (.deck K X) false)) :=
  ⟨⟨rfl, (offer_meets _ _).1, (offer_meets _ _).2.1, fun _ => rfl, (offer_meets _ _).2.2.2 _⟩,
    rfl, (offer_meets _ _).1, (offer_meets _ _).2.1, by decide, (offer_meets _ _).2.2.2 _⟩

/-- A booted engine whose host has nothing more to drive answers a next state at every edge. -/
theorem steps_of_quiet_host (n : Nat) : ∀ s : State, s.booted = true → s.ports.rst = false → s.upcoming = [] →
    ∃ t, steps n s = .next t ∧ t.upcoming = [] := by
  induction n with
  | zero => exact fun s _ _ hu => ⟨s, rfl, hu⟩
  | succ n ih =>
    intro s hb hr hu
    have h : ∃ u, step s = .next u ∧ u.booted = true ∧ u.ports.rst = false ∧ u.upcoming = [] := by
      by_cases hi : s.st = .idle ∧ s.ports.cmdValid = true
      · obtain ⟨u, hx⟩ := exec_answers (decode s.ports.command) s
        refine ⟨driveNext u, by rw [step_accept hr hb hi.1 hi.2, hx]; rfl, ?_⟩
        have e : u.booted = s.booted ∧ u.upcoming = s.upcoming := by
          rcases exec_idle_cases hi.1 hx with ⟨_, rfl⟩ | ⟨_, rfl⟩ | ⟨_, _, rfl⟩ | ⟨_, _, _, rfl⟩ | ⟨_, _, _, rfl⟩ |
            ⟨_, _, _, rfl⟩ | ⟨_, _, _, rfl⟩ | ⟨_, _, _, rfl⟩ <;> exact ⟨rfl, rfl⟩
        exact ⟨e.1.trans hb, by simp [e.2, hu, Ports.quiet], by simp [e.2, hu]⟩
      · refine ⟨_, step_quiet hr hb hi, ?_⟩
        cases hs : s.st <;> simp [quietEdge, hs, hb, hu, Ports.quiet]
    obtain ⟨u, h1, h2, h3, h4⟩ := h
    rw [steps_succ_of_next n h1]
    exact ih u h2 h3 h4

/-- ENC under a stored key, then DEC of what it left in DOUT. -/
theorem test_witness_DecOfTheResultOfEncGivesTheBlockBack :
    Ready (offer (.enc M) true) ∧ Presents (.enc M) (offer (.enc M) true) ∧ (offer (.enc M) true).keyValid = true ∧
    NoResetFor 18 (offer (.enc M) true) ∧ ∃ t p, steps 18 (offer (.enc M) true) = .next t ∧
      Presents (.dec t.DOUT) (withPorts p t) ∧ NoResetFor 18 (withPorts p t) := by
  refine ⟨(offer_meets _ _).1, (offer_meets _ _).2.1, rfl, (offer_meets _ _).2.2.2 18, ?_⟩
  obtain ⟨t, ht, hu⟩ := steps_of_quiet_host 18 (offer (.enc M) true) rfl rfl rfl
  refine ⟨t, Ports.present (encode (.dec t.DOUT)) 0, ht, ⟨rfl, rfl, rfl⟩, fun j _ => ?_⟩
  cases j <;> simp [portsAt, hu, Ports.present, Ports.quiet]

/-- For both statements about host scripts. -/
theorem test_witness_HostScripts : Ready base := ⟨rfl, rfl⟩

theorem test_witness_EveryStepKeepsTheControlInvariant :
    ControlInv (offer (.enck K M) true) ∧ ∃ t, step (offer (.enck K M) true) = .next t := by
  refine ⟨?_, _, rfl⟩
  unfold ControlInv
  decide

/-- The accept edge of LDKEY; a KS edge of its schedule (cnt 0 and 15); and a NOP while no key is loaded. -/
theorem test_witness_StoredRoundKeysAreTheScheduleOfTheLastKey :
    ((∃ t, step (offer (.ldkey K) true) = .next t) ∧ accepted (offer (.ldkey K) true) = some (.ldkey K) ∧
      loadedKey (.ldkey K) = some K) ∧
    (KeyIs K (busy .ks 0 false false) ∧ (∃ t, step (busy .ks 0 false false) = .next t) ∧
      accepted (busy .ks 0 false false) = none) ∧
    (KeyIs K { busy .ks 15 false false with C := 0xF866557#28, D := 0xAAB33C7#28, RK := keySchedule K } ∧
      ∃ t, step { busy .ks 15 false false with C := 0xF866557#28, D := 0xAAB33C7#28, RK := keySchedule K } = .next t) ∧
    (KeyIs K (offer .nop false) ∧ (∃ t, step (offer .nop false) = .next t) ∧
      accepted (offer .nop false) = some .nop ∧ loadedKey .nop = none) := by
  refine ⟨⟨⟨_, rfl⟩, rfl, rfl⟩, ⟨⟨by decide, fun _ => ⟨by decide +kernel, by decide +kernel⟩⟩, ⟨_, rfl⟩, rfl⟩,
    ⟨⟨fun _ => rfl, fun _ => ⟨by decide +kernel, fun _ _ => rfl⟩⟩, _, rfl⟩, ⟨by decide, by decide⟩, ⟨_, rfl⟩, rfl, rfl⟩

/-- Two states that differ in the key presented, the block registers and the round keys. -/
theorem test_witness_TimingDependsOnControlInputsOnly :
    SameTiming (offer (.ldkey K) true)
      { offer (.ldkey X) true with L := 0, R := 0, DOUT := M, RK := Vector.replicate 16 0 } ∧
    (offer (.ldkey K) true).ports.keyIn ≠ (offer (.ldkey X) true).ports.keyIn := by
  refine ⟨?_, by decide⟩
  unfold SameTiming
  decide

/-- Two states after reset that differ in every register reset leaves open, and two reset edges from unlike states. -/
theorem test_witness_UnspecifiedRegistersReachNoResult :
    SameResults base { base with L := 0, R := 1, C := 2, D := 3, RK := Vector.replicate 16 4, draws := 9 } ∧
    (resetInKs.ports.rst = true ∧ ({ base with ports := { Ports.quiet with rst := true } } : State).ports.rst = true ∧
      resetInKs.upcoming = ({ base with ports := { Ports.quiet with rst := true } } : State).upcoming) := by
  refine ⟨?_, rfl, rfl, rfl⟩
  unfold SameResults
  decide

/-- The last clause about the output ports also needs a loaded key. -/
theorem test_witness_UnspecifiedRegistersReachNoResult_with_key :
    SameResults (offer .nop true) { offer .nop true with L := 0, R := 1, C := 2, D := 3 } ∧
    (offer .nop true).keyValid = true := by
  refine ⟨?_, rfl⟩
  unfold SameResults
  decide

end Sys2Proof.Tests
end

section
/-!
PROOFS. The edges of the engine as one case list (45_commands.md R210 to R219, R248), what the sequencing functions answer,
and the statements of 10_state.md.
-/

namespace Sys2Proof.Machine

/-! ## Sequencing (R24, R158, R198) -/

@[simp] theorem lastStep_eq_true_iff (cnt : Counter) : lastStep cnt = true ↔ cnt = 15#4 := by
  simp [lastStep]

theorem nextCnt_of_last {cnt : Counter} (h : cnt = 15#4) : nextCnt cnt = 0#4 := by
  simp [nextCnt, h]

/-- Before the last step the counter advances without wrapping. -/
theorem toNat_nextCnt_of_not_last {cnt : Counter} (h : cnt ≠ 15#4) : (nextCnt cnt).toNat = cnt.toNat + 1 := by
  have hlt : cnt.toNat + 1 < 16 := by
    have : cnt.toNat ≠ 15 := fun he => h (BitVec.eq_of_toNat_eq he)
    have := cnt.isLt
    omega
  simp [nextCnt, h, BitVec.toNat_add, Nat.mod_eq_of_lt hlt]

@[simp] theorem phaseAfterKs_eq_idle_iff (cnt : Counter) (chain : Bool) :
    phaseAfterKs cnt chain = .idle ↔ cnt = 15#4 ∧ chain = false := by
  cases chain <;> by_cases h : cnt = 15#4 <;> simp [phaseAfterKs, h]

@[simp] theorem phaseAfterKs_eq_ks_iff (cnt : Counter) (chain : Bool) : phaseAfterKs cnt chain = .ks ↔ cnt ≠ 15#4 := by
  cases chain <;> by_cases h : cnt = 15#4 <;> simp [phaseAfterKs, h]

@[simp] theorem phaseAfterKs_eq_rnd_iff (cnt : Counter) (chain : Bool) :
    phaseAfterKs cnt chain = .rnd ↔ cnt = 15#4 ∧ chain = true := by
  cases chain <;> by_cases h : cnt = 15#4 <;> simp [phaseAfterKs, h]

@[simp] theorem phaseAfterKs_ne_fin (cnt : Counter) (chain : Bool) : phaseAfterKs cnt chain ≠ .fin := by
  cases chain <;> by_cases h : cnt = 15#4 <;> simp [phaseAfterKs, h]

@[simp] theorem phaseAfterRnd_ne_idle (cnt : Counter) : phaseAfterRnd cnt ≠ .idle := by
  by_cases h : cnt = 15#4 <;> simp [phaseAfterRnd, h]

@[simp] theorem phaseAfterRnd_ne_ks (cnt : Counter) : phaseAfterRnd cnt ≠ .ks := by
  by_cases h : cnt = 15#4 <;> simp [phaseAfterRnd, h]

@[simp] theorem phaseAfterRnd_eq_rnd_iff (cnt : Counter) : phaseAfterRnd cnt = .rnd ↔ cnt ≠ 15#4 := by
  simp [phaseAfterRnd]

@[simp] theorem phaseAfterRnd_eq_fin_iff (cnt : Counter) : phaseAfterRnd cnt = .fin ↔ cnt = 15#4 := by
  simp [phaseAfterRnd]

@[simp] theorem keyValidAfterKs_eq (cnt : Counter) (keyValid : Bool) :
    keyValidAfterKs cnt keyValid = (decide (cnt = 15#4) || keyValid) := rfl

@[simp] theorem doneAfterKs_eq (cnt : Counter) (chain : Bool) :
    doneAfterKs cnt chain = (decide (cnt = 15#4) && !chain) := rfl

/-! ## The edges of the engine -/

/-- A command that processes a block under the stored keys raises no error only with a loaded key (R243). -/
theorem keyValid_of_acceptErr_ok {keyValid : Bool} {i : Instr} {b : Bool × Block} (hl : loadedKey i = none)
    (hb : blockOperation i = some b) (he : acceptErr keyValid i = .ok) : keyValid = true := by
  cases i with
  | enc m | dec m => simpa [acceptErr] using he
  | nop | ldkey k | rsvd4 | rsvd5 => cases hb
  | enck k m | deck k m => cases hl

/-- The edges that answer a next state, each under the conditions of R210 and R248 and with the registers it leaves.
The accept edges are told apart by what the command does: complete at once (R213, R219, R243), start a block with the
stored keys (R215, R216), load a key (R214), or load a key and a block (R217, R218). -/
inductive Edge (s : State) : State → Prop where
  | reset (hr : s.ports.rst = true) (ha : accepted s = none) : Edge s (resetEdge s)
  | complete (i : Instr) (hr : s.ports.rst = false) (hi : s.st = .idle) (ha : accepted s = some i)
      (hn : i = .nop ∨ acceptErr s.keyValid i ≠ .ok) (hl : loadedKey i = none)
      (hb : blockOperation i = none ∨ acceptErr s.keyValid i ≠ .ok) :
      Edge s (completeWith (acceptErr s.keyValid i) s)
  | block (i : Instr) (d : Bool) (m : Block) (hr : s.ports.rst = false) (hi : s.st = .idle)
      (ha : accepted s = some i) (hn : i ≠ .nop) (he : acceptErr s.keyValid i = .ok)
      (hl : loadedKey i = none) (hb : blockOperation i = some (d, m)) :
      Edge s (startRounds (loadBlock m d s))
  | key (i : Instr) (k : Block) (hr : s.ports.rst = false) (hi : s.st = .idle)
      (ha : accepted s = some i) (hn : i ≠ .nop) (he : acceptErr s.keyValid i = .ok)
      (hl : loadedKey i = some k) (hb : blockOperation i = none) : Edge s (startKeySchedule k false s)
  | keyAndBlock (i : Instr) (k : Block) (d : Bool) (m : Block) (hr : s.ports.rst = false) (hi : s.st = .idle)
      (ha : accepted s = some i) (hn : i ≠ .nop) (he : acceptErr s.keyValid i = .ok)
      (hl : loadedKey i = some k) (hb : blockOperation i = some (d, m)) :
      Edge s (startKeySchedule k true (loadBlock m d s))
  | idle (hr : s.ports.rst = false) (hs : s.st = .idle) (ha : accepted s = none) : Edge s (idleEdge s)
  | ks (hr : s.ports.rst = false) (hs : s.st = .ks) (ha : accepted s = none) : Edge s (ksEdge s)
  | rnd (hr : s.ports.rst = false) (hs : s.st = .rnd) (ha : accepted s = none) : Edge s (rndEdge s)
  | fin (hr : s.ports.rst = false) (hs : s.st = .fin) (ha : accepted s = none) : Edge s (finEdge s)

/-- A command that raises an error completes at once and loads no key (R249). -/
theorem Edge.of_error {i : Instr} {e : ErrCode} {s : State} (hr : s.ports.rst = false) (hi : s.st = .idle)
    (ha : accepted s = some i) (he : acceptErr s.keyValid i = e) (hne : e ≠ .ok) (hl : loadedKey i = none) :
    Edge s (raise e s) := by
  subst he
  exact .complete i hr hi ha (.inr hne) hl (.inr hne)

/-- Executing the accepted command takes one of the accept edges. -/
theorem Edge.of_exec {i : Instr} {s u : State} (hr : s.ports.rst = false) (hi : s.st = .idle)
    (ha : accepted s = some i) (he : exec i s = .next u) : Edge s u := by
  rcases exec_idle_cases hi he with ⟨rfl, rfl⟩ | ⟨rfl | rfl, rfl⟩ | ⟨k, rfl, rfl⟩ | ⟨m, rfl | rfl, hk, rfl⟩ |
    ⟨m, rfl, hk, rfl⟩ | ⟨m, rfl, hk, rfl⟩ | ⟨k, m, rfl, rfl⟩ | ⟨k, m, rfl, rfl⟩
  · exact .complete _ hr hi ha (.inl rfl) rfl (.inl rfl)
  · exact .of_error hr hi ha rfl nofun rfl
  · exact .of_error hr hi ha rfl nofun rfl
  · exact .key _ k hr hi ha nofun rfl rfl rfl
  · exact .of_error hr hi ha (by simp [acceptErr, hk]) nofun rfl
  · exact .of_error hr hi ha (by simp [acceptErr, hk]) nofun rfl
  · exact .block _ false m hr hi ha nofun (by simp [acceptErr, hk]) rfl rfl
  · exact .block _ true m hr hi ha nofun (by simp [acceptErr, hk]) rfl rfl
  · exact .keyAndBlock _ k false m hr hi ha nofun rfl rfl rfl
  · exact .keyAndBlock _ k true m hr hi ha nofun rfl rfl rfl

/-- An edge that takes no command is the one of the present FSM state (R210). -/
theorem Edge.of_quiet {s : State} (hr : s.ports.rst = false) (ha : accepted s = none) : Edge s (quietEdge s) := by
  cases hs : s.st with
  | idle => exact quietEdge_idle hs ▸ .idle hr hs ha
  | ks => exact quietEdge_ks hs ▸ .ks hr hs ha
  | rnd => exact quietEdge_rnd hs ▸ .rnd hr hs ha
  | fin => exact quietEdge_fin hs ▸ .fin hr hs ha

/-- Every answering step is one of the edges, followed by the host's next port values. -/
theorem edge_of_step {s t : State} (h : step s = .next t) : ∃ u, Edge s u ∧ t = driveNext u := by
  rcases step_accepted_cases h with ⟨hr, ha, rfl⟩ | ⟨hr, hi, i, u, ha, he, rfl⟩ | ⟨hr, ha, rfl⟩
  · exact ⟨_, .reset hr ha, rfl⟩
  · exact ⟨u, .of_exec hr hi ha he, rfl⟩
  · exact ⟨_, .of_quiet hr ha, rfl⟩

/-! ## The control registers (R44) -/

theorem controlInv_resetEdge (s : State) : ControlInv (resetEdge s) := by
  simp [ControlInv]

theorem controlInv_completeWith {s : State} (h : ControlInv s) (hi : s.st = .idle) (e : ErrCode) :
    ControlInv (completeWith e s) := by
  simp_all [ControlInv]

theorem controlInv_startKeySchedule (k : Block) {chain : Bool} {s : State}
    (hout : chain = true → s.doutValid = false) : ControlInv (startKeySchedule k chain s) := by
  simpa [ControlInv] using hout

theorem controlInv_startRounds {s : State} (hk : s.keyValid = true) (hout : s.doutValid = false) :
    ControlInv (startRounds s) := by
  simp [ControlInv, hk, hout]

theorem controlInv_idleEdge {s : State} (h : ControlInv s) : ControlInv (idleEdge s) := by
  simp_all [ControlInv]

theorem controlInv_ksEdge {s : State} (h : ControlInv s) (hs : s.st = .ks) : ControlInv (ksEdge s) := by
  obtain ⟨-, hkey, -, hout, -, herr⟩ := h
  have hok : s.err = .ok := herr (by simp [hs])
  have hwork : s.chain = true → s.doutValid = false := fun hc => hout (.inr (.inr ⟨hs, hc⟩))
  by_cases hc : s.cnt = 15#4
  · simpa [ControlInv, hc, hok, nextCnt_of_last] using hwork
  · simpa [ControlInv, hc, hok, hkey hs] using hwork

theorem controlInv_rndEdge {s : State} (h : ControlInv s) (hs : s.st = .rnd) : ControlInv (rndEdge s) := by
  obtain ⟨-, -, hkey, hout, -, herr⟩ := h
  have hok : s.err = .ok := herr (by simp [hs])
  have hload : s.keyValid = true := hkey (.inl hs)
  have hwork : s.doutValid = false := hout (.inl hs)
  simp +contextual [ControlInv, hok, hload, hwork, nextCnt_of_last]

theorem controlInv_finEdge {s : State} (h : ControlInv s) (hs : s.st = .fin) : ControlInv (finEdge s) := by
  simp_all [ControlInv]

/-- The invariant does not speak of the host's port values. -/
theorem controlInv_driveNext (s : State) : ControlInv (driveNext s) ↔ ControlInv s := Iff.rfl

theorem ControlInv.edge {s u : State} (h : ControlInv s) (he : Edge s u) : ControlInv u := by
  cases he with
  | reset => exact controlInv_resetEdge s
  | complete _ _ hi => exact controlInv_completeWith h hi _
  | block _ _ _ _ _ _ _ hok hl hb => exact controlInv_startRounds (keyValid_of_acceptErr_ok hl hb hok) rfl
  | key _ k => exact controlInv_startKeySchedule k nofun
  | keyAndBlock _ k => exact controlInv_startKeySchedule k fun _ => rfl
  | idle => exact controlInv_idleEdge h
  | ks _ hs => exact controlInv_ksEdge h hs
  | rnd _ hs => exact controlInv_rndEdge h hs
  | fin _ hs => exact controlInv_finEdge h hs

/-- Settles O55: each edge keeps the control invariant, and the host's port values are no part of it. -/
theorem everyStepKeepsTheControlInvariant : Obligations.EveryStepKeepsTheControlInvariant := by
  intro s t h hstep
  obtain ⟨u, he, rfl⟩ := edge_of_step hstep
  exact (controlInv_driveNext u).2 (h.edge he)

/-- Settles O56: the reset state waits with every flag 0. -/
theorem controlInvariantHoldsAtReset : Obligations.ControlInvariantHoldsAtReset := by
  simp [Obligations.ControlInvariantHoldsAtReset, ControlInv, State.reset]

/-! ## The round-key store (R45, R61, R158) -/

/-- Two stores agree on the entries RK[1..n]. -/
def AgreeBelow (n : Nat) (a b : RoundKeys) : Prop := ∀ j : Fin 16, j.val < n → a[j] = b[j]

theorem agreeBelow_zero (a b : RoundKeys) : AgreeBelow 0 a b := fun _ hj => absurd hj (Nat.not_lt_zero _)

theorem AgreeBelow.eq {a b : RoundKeys} (h : AgreeBelow 16 a b) : a = b :=
  Vector.ext fun j hj => h ⟨j, hj⟩ hj

theorem writeKey_getElem (rk : RoundKeys) (cnt : Counter) (v : RoundKey) (j : Fin 16) :
    (writeKey rk cnt v)[j] = if cnt.toNat = j.val then v else rk[j] := by
  simp [writeKey, Vector.getElem_set]

/-- Writing one value into the entry after those two stores agree on makes them agree on one more. -/
theorem AgreeBelow.writeKey {a b : RoundKeys} {cnt : Counter} (h : AgreeBelow cnt.toNat a b) (v : RoundKey) :
    AgreeBelow (cnt.toNat + 1) (writeKey a cnt v) (writeKey b cnt v) := by
  intro j hj
  rw [writeKey_getElem, writeKey_getElem]
  split
  · rfl
  · exact h j (by omega)

/-- The round key of step `cnt` is the entry of the schedule that the step writes. -/
theorem writeKey_keySchedule (k : Block) (cnt : Counter) :
    writeKey (keySchedule k) cnt
      (roundKeyOf (keyHalves k (roundNumber cnt)).1 (keyHalves k (roundNumber cnt)).2) = keySchedule k := by
  refine Vector.ext fun j hj => ?_
  rw [writeKey, Vector.getElem_set]
  split
  · next h => subst h; simp [keySchedule, roundNumber]
  · rfl

theorem keyIs_of_not_ks {k : Block} {s : State} (hs : s.st ≠ .ks) (h : s.keyValid = true → s.RK = keySchedule k) :
    KeyIs k s := ⟨h, fun hs' => absurd hs' hs⟩

theorem keyIs_startKeySchedule (k : Block) (chain : Bool) (s : State) : KeyIs k (startKeySchedule k chain s) :=
  ⟨nofun, fun _ => ⟨rfl, agreeBelow_zero _ _⟩⟩

/-- A KS edge writes the next entry of the schedule it is in, and the sixteenth completes it. -/
theorem keyIs_ksEdge {k : Block} {s : State} (h : KeyIs k s) (hs : s.st = .ks) : KeyIs k (ksEdge s) := by
  obtain ⟨hstore, hwork⟩ := h
  obtain ⟨hhalves, hwritten⟩ := hwork hs
  have hnext : ((ksEdge s).C, (ksEdge s).D) = keyHalves k (roundNumber s.cnt) := by
    simp [roundNumber, keyHalves, ← hhalves]
  have hRK : (ksEdge s).RK = writeKey s.RK s.cnt
      (roundKeyOf (keyHalves k (roundNumber s.cnt)).1 (keyHalves k (roundNumber s.cnt)).2) := by
    rw [← hnext]; rfl
  have hagree : AgreeBelow (s.cnt.toNat + 1) (ksEdge s).RK (keySchedule k) := by
    rw [hRK, ← writeKey_keySchedule k s.cnt]
    exact AgreeBelow.writeKey hwritten _
  refine ⟨fun hv => ?_, fun hks => ?_⟩
  · have hv : s.cnt = 15#4 ∨ s.keyValid = true := by simpa using hv
    rcases hv with hc | hv
    · rw [hc] at hagree
      exact hagree.eq
    · rw [hRK, hstore hv, writeKey_keySchedule]
  · have hc : s.cnt ≠ 15#4 := (phaseAfterKs_eq_ks_iff _ _).1 hks
    rw [ksEdge_cnt, toNat_nextCnt_of_not_last hc]
    exact ⟨hnext, hagree⟩

theorem KeyIs.edge {k : Block} {s u : State} (h : KeyIs k s)
    (hload : ∀ i, accepted s = some i → loadedKey i = none ∨ loadedKey i = some k) (he : Edge s u) : KeyIs k u := by
  cases he with
  | key i k' _ _ ha _ _ hl | keyAndBlock i k' _ _ _ _ ha _ _ hl =>
    obtain rfl : k' = k := by simpa [hl] using hload i ha
    exact keyIs_startKeySchedule _ _ _
  | ks _ hs => exact keyIs_ksEdge h hs
  | reset => exact keyIs_of_not_ks nofun nofun
  | complete | block | idle | rnd | fin => exact keyIs_of_not_ks (by simp [*]) h.1

/-- The accept edge of a command that loads `k` makes it the key of the store. -/
theorem Edge.keyIs_of_load {k : Block} {s u : State} {i : Instr} (he : Edge s u) (ha : accepted s = some i)
    (hl : loadedKey i = some k) : KeyIs k u := by
  cases he with
  | key i' k' _ _ ha' _ _ hl' | keyAndBlock i' k' _ _ _ _ ha' _ _ hl' =>
    obtain rfl : k' = k := by simp_all
    exact keyIs_startKeySchedule _ _ _
  | _ => simp_all

/-- Settles O57: a load starts the schedule of its key, and every other edge keeps the store. -/
theorem storedRoundKeysAreTheScheduleOfTheLastKey : Obligations.StoredRoundKeysAreTheScheduleOfTheLastKey := by
  intro k s t hstep
  obtain ⟨u, he, rfl⟩ := edge_of_step hstep
  refine ⟨fun i ha hl => he.keyIs_of_load ha hl, fun h hload => ?_⟩
  have hu : KeyIs k u := h.edge hload he
  exact ⟨hu, hu.1⟩

/-- Settles O58: `key_valid` is 0 and no schedule runs. -/
theorem noKeyIsLoadedAtReset : Obligations.NoKeyIsLoadedAtReset :=
  ⟨rfl, fun _ => keyIs_of_not_ks nofun nofun⟩

/-! ## Registers without a specified value reach no result (R43) -/

theorem sameResults_driveNext {s t : State} (h : SameResults s t) : SameResults (driveNext s) (driveNext t) := by
  simp_all [SameResults]

/-- What reset leaves open is L, R, C, D and RK, in IDLE with no key loaded (R41). -/
theorem sameResults_resetEdge {s t : State} (hu : s.upcoming = t.upcoming) :
    SameResults (driveNext (resetEdge s)) (driveNext (resetEdge t)) := by
  simp [SameResults, hu]

theorem sameResults_completeWith {s t : State} (h : SameResults s t) (e : ErrCode) :
    SameResults (completeWith e s) (completeWith e t) := by
  simp_all [SameResults]

theorem sameResults_startRounds {s t : State} (h : SameResults s t) (hk : s.keyValid = true) (m : Block) (d : Bool) :
    SameResults (startRounds (loadBlock m d s)) (startRounds (loadBlock m d t)) := by
  simp_all [SameResults]

theorem sameResults_ldkey {s t : State} (h : SameResults s t) (k : Block) :
    SameResults (startKeySchedule k false s) (startKeySchedule k false t) := by
  simp_all [SameResults]

theorem sameResults_loadKeyAndBlock {s t : State} (h : SameResults s t) (k m : Block) (d : Bool) :
    SameResults (startKeySchedule k true (loadBlock m d s)) (startKeySchedule k true (loadBlock m d t)) := by
  simp_all [SameResults]

theorem sameResults_idleEdge {s t : State} (h : SameResults s t) : SameResults (idleEdge s) (idleEdge t) := by
  simp_all [SameResults]

theorem sameResults_ksEdge {s t : State} (h : SameResults s t) (hs : s.st = .ks) :
    SameResults (ksEdge s) (ksEdge t) := by
  obtain ⟨hst, hcnt, hdec, hchain, hkv, hdv, hdone, herr, hdout, hp, hu, hb, hRK, hLR, hCD⟩ := h
  obtain ⟨hC, hD, hwritten⟩ := hCD hs
  have hagree : AgreeBelow (s.cnt.toNat + 1) (ksEdge s).RK (ksEdge t).RK := by
    simp only [ksEdge_RK, ← hcnt, ← hC, ← hD]
    exact AgreeBelow.writeKey hwritten _
  have hwork : (ksEdge s).st = .rnd ∨ (ksEdge s).st = .fin ∨ ((ksEdge s).st = .ks ∧ s.chain = true) →
      s.chain = true := by
    simp only [ksEdge_st, phaseAfterKs_eq_rnd_iff, phaseAfterKs_ne_fin]
    tauto
  refine ⟨?_, ?_, hdec, hchain, ?_, hdv, ?_, herr, hdout, hp, hu, hb, fun hv => ?_,
    fun hw => hLR (.inr (.inr ⟨hs, hwork hw⟩)), fun hks => ?_⟩
  · simp [hcnt, hchain]
  · simp [hcnt]
  · simp [hcnt, hkv]
  · simp [hcnt, hchain]
  · by_cases hc : s.cnt = 15#4
    · rw [hc] at hagree
      exact hagree.eq
    · have hv' : s.keyValid = true := by simpa [hc] using hv
      rw [ksEdge_RK, ksEdge_RK, ← hcnt, ← hC, ← hD, hRK (.inl hv')]
  · have hc : s.cnt ≠ 15#4 := (phaseAfterKs_eq_ks_iff _ _).1 hks
    rw [ksEdge_cnt, toNat_nextCnt_of_not_last hc]
    exact ⟨by simp [hC, hcnt], by simp [hD, hcnt], hagree⟩

theorem sameResults_rndEdge {s t : State} (h : SameResults s t) (hs : s.st = .rnd) :
    SameResults (rndEdge s) (rndEdge t) := by
  simp_all [SameResults]

theorem sameResults_finEdge {s t : State} (h : SameResults s t) (hs : s.st = .fin) :
    SameResults (finEdge s) (finEdge t) := by
  simp_all [SameResults]

theorem SameResults.st_eq {s t : State} (h : SameResults s t) : s.st = t.st := h.1

theorem SameResults.keyValid_eq {s t : State} (h : SameResults s t) : s.keyValid = t.keyValid := by
  obtain ⟨-, -, -, -, hkv, -⟩ := h
  exact hkv

theorem SameResults.host_eq {s t : State} (h : SameResults s t) :
    s.ports = t.ports ∧ s.upcoming = t.upcoming ∧ s.booted = t.booted := by
  obtain ⟨-, -, -, -, -, -, -, -, -, hports, hupcoming, hbooted, -⟩ := h
  exact ⟨hports, hupcoming, hbooted⟩

theorem sameResults_quietEdge {s t : State} (h : SameResults s t) : SameResults (quietEdge s) (quietEdge t) := by
  have hst := h.st_eq
  cases hs : s.st with
  | idle => rw [quietEdge_idle hs, quietEdge_idle (hst ▸ hs)]; exact sameResults_idleEdge h
  | ks => rw [quietEdge_ks hs, quietEdge_ks (hst ▸ hs)]; exact sameResults_ksEdge h hs
  | rnd => rw [quietEdge_rnd hs, quietEdge_rnd (hst ▸ hs)]; exact sameResults_rndEdge h hs
  | fin => rw [quietEdge_fin hs, quietEdge_fin (hst ▸ hs)]; exact sameResults_finEdge h hs

theorem bothNext_nextCycle {o o' : Host.Outcome State Fault Refusal} (h : BothNext SameResults o o') :
    BothNext SameResults (nextCycle o) (nextCycle o') := by
  cases o <;> cases o' <;> simp_all [BothNext, nextCycle, sameResults_driveNext]

/-- A busy engine does the same whatever the command, so only the effect at an accept edge is left to compare. -/
theorem bothNext_accept {s t : State} (h : SameResults s t) {f : State → State} (hf : SameResults (f s) (f t)) :
    BothNext SameResults (accept f s) (accept f t) := by
  by_cases hi : s.st = .idle
  · rw [accept_idle f hi, accept_idle f (h.st_eq ▸ hi)]
    exact hf
  · rw [accept_busy f hi, accept_busy f (h.st_eq ▸ hi)]
    exact sameResults_quietEdge h

/-- ENC and DEC read the round keys only when they are those of a loaded key. -/
theorem sameResults_blockCommand {s t : State} (h : SameResults s t) (m : Block) (d : Bool) :
    SameResults (if s.keyValid then startRounds (loadBlock m d s) else raise .noKey s)
      (if t.keyValid then startRounds (loadBlock m d t) else raise .noKey t) := by
  rw [← h.keyValid_eq]
  split
  · next hk => exact sameResults_startRounds h hk m d
  · exact sameResults_completeWith h _

theorem sameResults_exec {s t : State} (h : SameResults s t) (i : Instr) :
    BothNext SameResults (exec i s) (exec i t) := by
  cases i with
  | nop | rsvd4 | rsvd5 => exact bothNext_accept h (sameResults_completeWith h _)
  | ldkey k => exact bothNext_accept h (sameResults_ldkey h k)
  | enc m => simp only [exec, execEnc]; exact bothNext_accept h (sameResults_blockCommand h m false)
  | dec m => simp only [exec, execDec]; exact bothNext_accept h (sameResults_blockCommand h m true)
  | enck k m => simp only [exec, execEnck]; exact bothNext_accept h (sameResults_loadKeyAndBlock h k m false)
  | deck k m => simp only [exec, execDeck]; exact bothNext_accept h (sameResults_loadKeyAndBlock h k m true)

theorem sameResults_step {s t : State} (h : SameResults s t) : BothNext SameResults (step s) (step t) := by
  obtain ⟨hports, hupcoming, hbooted⟩ := h.host_eq
  cases hr : s.ports.rst with
  | true =>
    rw [step_reset hr, step_reset (hports ▸ hr)]
    exact sameResults_resetEdge hupcoming
  | false =>
    cases hb : s.booted with
    | false =>
      rw [step_unbooted hr hb, step_unbooted (hports ▸ hr) (hbooted ▸ hb)]
      rfl
    | true =>
      by_cases hv : s.st = .idle ∧ s.ports.cmdValid = true
      · rw [step_accept hr hb hv.1 hv.2,
          step_accept (hports ▸ hr) (hbooted ▸ hb) (h.st_eq ▸ hv.1) (hports ▸ hv.2), ← hports]
        exact bothNext_nextCycle (sameResults_exec h _)
      · rw [step_quiet hr hb hv, step_quiet (hports ▸ hr) (hbooted ▸ hb) (h.st_eq ▸ hports ▸ hv)]
        exact sameResults_driveNext (sameResults_quietEdge h)

/-- The status ports and `data_out` show no register without a specified value, nor does `rk_out` with a loaded key. -/
theorem sameResults_outputs {s t : State} (h : SameResults s t) :
    (outputs s).cmdReady = (outputs t).cmdReady ∧ (outputs s).done = (outputs t).done ∧
    (outputs s).keyValid = (outputs t).keyValid ∧ (outputs s).doutValid = (outputs t).doutValid ∧
    (outputs s).err = (outputs t).err ∧ (outputs s).dataOut = (outputs t).dataOut ∧
    (s.keyValid = true → (outputs s).rkOut = (outputs t).rkOut) := by
  obtain ⟨hst, -, -, -, hkv, hdv, hdone, herr, hdout, hports, -, -, hRK, -⟩ := h
  refine ⟨?_, hdone, hkv, hdv, congrArg ErrCode.code herr, hdout, fun hv => ?_⟩
  · simp [outputs, hst]
  · simp [outputs, hports, hRK (.inl hv)]

/-- Settles O60: every step keeps `SameResults`, the ports named show nothing beyond it, and reset establishes it. -/
theorem unspecifiedRegistersReachNoResult : Obligations.UnspecifiedRegistersReachNoResult := by
  refine ⟨fun s t => sameResults_step, fun s t => sameResults_outputs, fun s t hs ht hu => ?_⟩
  rw [step_reset hs, step_reset ht]
  exact sameResults_resetEdge hu

/-! ## What a step answers, and which edge writes which register -/

/-- With a reset edge in the past, or at one, every step answers a next state (R42). -/
theorem step_answers {s : State} (h : s.booted = true ∨ s.ports.rst = true) : ∃ t, step s = .next t := by
  cases hr : s.ports.rst with
  | true => exact ⟨_, step_reset hr⟩
  | false =>
    have hb : s.booted = true := by simpa [hr] using h
    by_cases hv : s.st = .idle ∧ s.ports.cmdValid = true
    · obtain ⟨u, hu⟩ := exec_answers (decode s.ports.command) s
      exact ⟨driveNext u, by rw [step_accept hr hb hv.1 hv.2, hu]; rfl⟩
    · exact ⟨_, step_quiet hr hb hv⟩

/-- Settles O6: only the refusal of R42 stops a step, and no edge makes `booted` false. -/
theorem onlyAStepBeforeTheFirstResetIsRefused : Obligations.OnlyAStepBeforeTheFirstResetIsRefused := by
  refine ⟨fun s hb hr => step_unbooted hr hb, fun s h => ?_⟩
  obtain ⟨t, ht⟩ := step_answers h
  obtain ⟨u, he, rfl⟩ := edge_of_step ht
  refine ⟨_, ht, ?_⟩
  cases he <;> simp_all

/-- Settles O25: `done` is written 1 by the accept edges that complete at once, by the last KS edge of a schedule that
stands alone, and by the FIN edge. -/
theorem doneMarksCompletingEdges : Obligations.DoneMarksCompletingEdges := by
  refine ⟨rfl, fun s t hstep => ⟨?_, rfl⟩⟩
  obtain ⟨u, he, rfl⟩ := edge_of_step hstep
  cases he with
  | complete i hr hi ha hn => simp [Completes, hr, ha, hn]
  | ks hr hs ha => simp [Completes, hr, hs, ha]
  | fin hr hs => simp [Completes, hr, hs]
  | _ => simp [Completes, *]

/-- Settles O26: the edges that load a key clear `key_valid`, the sixteenth KS edge sets it, and the others keep it. -/
theorem keyValidIsClearedByKeyLoadsAndSetByTheLastKsEdge :
    Obligations.KeyValidIsClearedByKeyLoadsAndSetByTheLastKsEdge := by
  intro s t hstep
  obtain ⟨u, he, rfl⟩ := edge_of_step hstep
  cases he with
  | key i k hr _ ha _ _ hl | keyAndBlock i k _ _ hr _ ha _ _ hl => simp [hr, ha, hl]
  | ks hr hs ha => simp [hr, hs, ha]
  | _ => simp [*]

/-- Settles O27: the edges that load a block clear `dout_valid`, the FIN edge sets it, and the others keep it. -/
theorem doutValidIsClearedByBlockCommandsAndSetByFin : Obligations.DoutValidIsClearedByBlockCommandsAndSetByFin := by
  intro s t hstep
  obtain ⟨u, he, rfl⟩ := edge_of_step hstep
  cases he with
  | block i d m hr _ ha _ hok _ hb | keyAndBlock i _ d m hr _ ha _ hok _ hb => simp [hr, ha, hok, hb]
  | fin hr hs ha => simp [hr, hs, ha]
  | _ => simp [*]

/-- Settles O28: an edge that completes at once keeps both registers, since it loads no key and starts no block. -/
theorem directionAndChainAreSetAtAcceptEdges : Obligations.DirectionAndChainAreSetAtAcceptEdges := by
  intro s t hstep hrst
  obtain ⟨u, he, rfl⟩ := edge_of_step hstep
  cases he with
  | complete i _ _ ha _ hl hb => rcases hb with hb | hb <;> simp [ha, hl, hb]
  | reset hr => simp [hr] at hrst
  | _ => simp [*]

/-- Settles O29: of the edges only RND and the two that load a block name L and R. -/
theorem halfBlocksAreWrittenByAcceptAndRndEdges : Obligations.HalfBlocksAreWrittenByAcceptAndRndEdges := by
  intro s t hstep hrst
  obtain ⟨u, he, rfl⟩ := edge_of_step hstep
  refine ⟨fun hs => ?_, fun i d m ha hb herr => ?_, fun hs hn => ?_⟩
  · cases he with
    | rnd => exact ⟨rfl, rfl⟩
    | _ => simp_all
  · cases he with
    | block | keyAndBlock => simp_all [initialHalves]
    | _ => simp_all
  · cases he <;> simp_all

/-- Settles O30: of the edges only KS and the two that load a key name C and D. -/
theorem keyHalvesAreWrittenByAcceptAndKsEdges : Obligations.KeyHalvesAreWrittenByAcceptAndKsEdges := by
  intro s t hstep hrst
  obtain ⟨u, he, rfl⟩ := edge_of_step hstep
  refine ⟨fun hs => ?_, fun i k ha hl => ?_, fun hs hn => ?_⟩
  · cases he with
    | ks => exact ⟨rfl, rfl⟩
    | _ => simp_all
  · cases he with
    | key | keyAndBlock => simp_all [keyPlus]
    | _ => simp_all
  · cases he <;> simp_all

/-- Settles O32: of the edges only FIN and reset name DOUT. -/
theorem resultIsWrittenOnlyByTheFinEdge : Obligations.ResultIsWrittenOnlyByTheFinEdge := by
  refine ⟨rfl, fun s t hstep => ⟨?_, rfl⟩⟩
  obtain ⟨u, he, rfl⟩ := edge_of_step hstep
  cases he with
  | fin hr hs => simp [hr, hs, finalBlock]
  | _ => simp [*]

theorem rotl28_zero (x : KeyHalf) : rotl28 x 0 = x := by
  simpa [rotl28_28] using rotl28_rotl28 x 28 0

/-- The first i rotation amounts together (R127). -/
def totalShift (i : Nat) : Nat := ((List.range i).map fun j => shiftAmount (j + 1)).sum

theorem totalShift_succ (i : Nat) : totalShift (i + 1) = totalShift i + shiftAmount (i + 1) := by
  simp [totalShift, List.range_succ]

/-- The key halves of round i are those of round 0, turned by the first i amounts at once (R152). -/
theorem keyHalves_eq_rotl28 (k : Block) (i : Nat) :
    keyHalves k i = (rotl28 (keyHalves k 0).1 (totalShift i), rotl28 (keyHalves k 0).2 (totalShift i)) := by
  induction i with
  | zero => exact Prod.ext (rotl28_zero _).symm (rotl28_zero _).symm
  | succ i ih =>
    calc keyHalves k (i + 1)
        = (rotl28 (keyHalves k i).1 (shiftAmount (i + 1)), rotl28 (keyHalves k i).2 (shiftAmount (i + 1))) := rfl
      _ = _ := by rw [ih, rotl28_rotl28, rotl28_rotl28, totalShift_succ]

theorem totalShift_sixteen : totalShift 16 = 28 := by decide

/-- Settles O36: the sixteen amounts are one full turn, so rotating by them all changes nothing. -/
theorem keyHalvesComeFullTurn : Obligations.KeyHalvesComeFullTurn := by
  refine ⟨totalShift_sixteen, fun k => ?_⟩
  rw [keyHalves_eq_rotl28, totalShift_sixteen, rotl28_28, rotl28_28]

/-- Settles O12: the fields of the reset state and the ports that show them, evaluated. -/
theorem resetStateHasTheResetValues : Obligations.ResetStateHasTheResetValues := by
  simp [Obligations.ResetStateHasTheResetValues, State.reset, outputs, ErrCode.code, Phase.code]

end Sys2Proof.Machine
end

section
/-!
PROOFS. The round-key store as the memory of the engine: which edge writes which entry, and how the host reads one
(20_memory.md R61, R63).
-/

namespace Sys2Proof.Machine

/-- A KS edge leaves, in the entry of its round, the round key of the halves it leaves in C and D (R158). -/
theorem ksEdge_RK_getElem_cnt (s : State) :
    (ksEdge s).RK[s.cnt.toNat] = roundKeyOf (ksEdge s).C (ksEdge s).D :=
  Vector.getElem_set_self _

/-- A KS edge keeps every entry but that of its round (R61). -/
theorem ksEdge_RK_getElem_of_ne {s : State} {j : Fin 16} (h : j.val ≠ s.cnt.toNat) : (ksEdge s).RK[j] = s.RK[j] := by
  rw [ksEdge_RK, writeKey_getElem, if_neg h.symm]

/-- With `rst = 0`, a step in KS is the KS edge. -/
theorem step_ks {s t : State} (h : step s = .next t) (hrst : s.ports.rst = false) (hs : s.st = .ks) :
    t = driveNext (ksEdge s) := by
  obtain ⟨u, he, rfl⟩ := edge_of_step h
  cases he with
  | ks => rfl
  | _ => simp_all

/-- Of the edges only KS and reset name RK. -/
theorem Edge.RK_eq {s u : State} (he : Edge s u) (hrst : s.ports.rst = false) (hs : s.st ≠ .ks) : u.RK = s.RK := by
  cases he with
  | reset hr => simp [hr] at hrst
  | ks _ hks => exact absurd hks hs
  | complete | block | key | keyAndBlock | idle | rnd | fin => rfl

/-- Settles O31: every edge but KS keeps the store, and the KS edge sets the entry of its round alone. -/
theorem roundKeysAreWrittenOnlyByKsEdges : Obligations.RoundKeysAreWrittenOnlyByKsEdges := by
  intro s t hstep hrst
  refine ⟨fun hs => ?_, fun hs => ?_⟩
  · obtain ⟨u, he, rfl⟩ := edge_of_step hstep
    exact he.RK_eq hrst hs
  · obtain rfl := step_ks hstep hrst hs
    exact ⟨ksEdge_RK_getElem_cnt s, fun _ => ksEdge_RK_getElem_of_ne⟩

/-- `rk_out` shows the entry that the host selects (R63). -/
theorem outputs_rkOut_of_rkSel {s : State} {sel : BitVec 4} (h : s.ports.rkSel = sel) :
    (outputs s).rkOut = s.RK[sel.toNat] := by
  subst h
  rfl

/-- Settles O33: the port reads the store at `rk_sel`, and the entry of the round is the one that the KS edge wrote. -/
theorem rkOutShowsTheSelectedEntry : Obligations.RkOutShowsTheSelectedEntry := by
  refine ⟨fun s sel hsel => outputs_rkOut_of_rkSel hsel, fun s t hstep hrst hs hsel => ?_⟩
  obtain rfl := step_ks hstep hrst hs
  exact (outputs_rkOut_of_rkSel hsel).trans (ksEdge_RK_getElem_cnt s)

end Sys2Proof.Machine
end

section
/-!
PROOFS. The command encoding (30_encoding.md R82 to R87): decoding and encoding undo each other, and of the command
ports the engine reads only what the decoder gives.
-/

namespace Sys2Proof

/-- The rows of the opcode map (R82). -/
theorem opcode_cases (op : Opcode) :
    op = 0b000#3 ∨ op = 0b001#3 ∨ op = 0b010#3 ∨ op = 0b011#3 ∨
    op = 0b100#3 ∨ op = 0b101#3 ∨ op = 0b110#3 ∨ op = 0b111#3 := by
  decide +revert

@[simp] theorem decode_encode (i : Instr) : decode (encode i) = i := by
  cases i <;> rfl

/-- What is encoded again is the command without the operands that its opcode does not read (R85, R87). -/
theorem encode_decode (c : Command) : encode (decode c) = c.canonical := by
  obtain ⟨op, k, m⟩ := c
  rcases opcode_cases op with rfl | rfl | rfl | rfl | rfl | rfl | rfl | rfl <;> rfl

theorem encode_injective : Function.Injective encode :=
  Function.LeftInverse.injective decode_encode

theorem decode_eq_iff (c c' : Command) : decode c = decode c' ↔ c.canonical = c'.canonical := by
  rw [← encode_decode, ← encode_decode, encode_injective.eq_iff]

/-- Settles O1: the decoder is a left inverse of the encoder, and encoding what was decoded is `Command.canonical`. -/
theorem decodeAndEncodeAgree : Obligations.DecodeAndEncodeAgree :=
  ⟨decode_encode, encode_decode, decode_eq_iff⟩

/-- Settles O2: each row of the opcode map, evaluated with the operands free. -/
theorem opcodeWordsDecodeAsTheMapSays : Obligations.OpcodeWordsDecodeAsTheMapSays :=
  fun _ _ => ⟨rfl, rfl, rfl, rfl, rfl, rfl, rfl, rfl⟩

namespace Machine

/-! ## The host's side of the state, exchanged -/

/-- The engine of s with another host: p on the ports now and `us` to come. -/
def withHost (p : Ports) (us : List Ports) (s : State) : State := { s with ports := p, upcoming := us }

@[simp] theorem withHost_st (p : Ports) (us : List Ports) (s : State) : (withHost p us s).st = s.st := rfl
@[simp] theorem withHost_keyValid (p : Ports) (us : List Ports) (s : State) :
    (withHost p us s).keyValid = s.keyValid := rfl
@[simp] theorem withHost_done (p : Ports) (us : List Ports) (s : State) : (withHost p us s).done = s.done := rfl
@[simp] theorem withHost_ports (p : Ports) (us : List Ports) (s : State) : (withHost p us s).ports = p := rfl

@[simp] theorem withHost_self (s : State) : withHost s.ports s.upcoming s = s := rfl

theorem withPorts_eq_withHost (p : Ports) (s : State) : withPorts p s = withHost p s.upcoming s := rfl

@[simp] theorem withPorts_withHost (p q : Ports) (us : List Ports) (s : State) :
    withPorts p (withHost q us s) = withHost p us s := rfl

@[simp] theorem driveNext_withHost (p : Ports) (us : List Ports) (s : State) :
    driveNext (withHost p us s) = withHost (us.headD Ports.quiet) us.tail s := rfl

/-- An edge that takes no command reads nothing of the host (R212). -/
theorem quietEdge_withHost (p : Ports) (us : List Ports) (s : State) :
    quietEdge (withHost p us s) = withHost p us (quietEdge s) := by
  cases hs : s.st with
  | idle => rw [quietEdge_idle hs, quietEdge_idle (s := withHost p us s) hs]; rfl
  | ks => rw [quietEdge_ks hs, quietEdge_ks (s := withHost p us s) hs]; rfl
  | rnd => rw [quietEdge_rnd hs, quietEdge_rnd (s := withHost p us s) hs]; rfl
  | fin => rw [quietEdge_fin hs, quietEdge_fin (s := withHost p us s) hs]; rfl

/-- An edge that takes no command leaves what the host drives as it was. -/
theorem quietEdge_upcoming (s : State) : (quietEdge s).upcoming = s.upcoming := by
  rw [← withHost_self s, quietEdge_withHost]
  rfl

theorem accept_withHost {f : State → State} (p : Ports) (us : List Ports) {s t : State}
    (hf : f (withHost p us s) = withHost p us (f s)) (h : accept f s = .next t) :
    accept f (withHost p us s) = .next (withHost p us t) := by
  by_cases hi : s.st = .idle
  · rw [accept_idle f hi] at h
    cases h
    rw [accept_idle f (s := withHost p us s) hi, hf]
  · rw [accept_busy f hi] at h
    cases h
    rw [accept_busy f (s := withHost p us s) hi, quietEdge_withHost]

/-- Every command is an acceptance of some effect that reads nothing of the host: its operands come from the decoder. -/
theorem exec_eq_accept_withHost (i : Instr) :
    ∃ f, (∀ s, exec i s = accept f s) ∧ ∀ p us s, f (withHost p us s) = withHost p us (f s) := by
  cases i with
  | enc m | dec m =>
    refine ⟨_, fun _ => rfl, fun p us s => ?_⟩
    rw [withHost_keyValid]
    split <;> rfl
  | nop | ldkey k | rsvd4 | rsvd5 | enck k m | deck k m => exact ⟨_, fun _ => rfl, fun _ _ _ => rfl⟩

/-- A command does the same whatever else the host drives (R80, R83). -/
theorem exec_withHost {i : Instr} {s t : State} (p : Ports) (us : List Ports) (h : exec i s = .next t) :
    exec i (withHost p us s) = .next (withHost p us t) := by
  obtain ⟨f, hexec, hf⟩ := exec_eq_accept_withHost i
  rw [hexec] at h ⊢
  exact accept_withHost p us (hf p us s) h

/-- A command leaves what the host drives as it was. -/
theorem exec_upcoming {i : Instr} {s t : State} (h : exec i s = .next t) : t.upcoming = s.upcoming := by
  have he := exec_withHost s.ports s.upcoming h
  rw [withHost_self, h] at he
  have ht : t = withHost s.ports s.upcoming t := Host.Outcome.next.inj he
  exact (congrArg State.upcoming ht).trans rfl

/-- The step reads of the ports `rst`, `cmd_valid` and the decoded command, and nothing else (R83, R85). -/
theorem step_withPorts {p : Ports} {s : State} (hrst : p.rst = s.ports.rst) (hvalid : p.cmdValid = s.ports.cmdValid)
    (hdecode : decode p.command = decode s.ports.command) : step (withPorts p s) = step s := by
  cases hr : s.ports.rst with
  | true =>
    rw [step_reset hr, step_reset (s := withPorts p s) (hrst.trans hr)]
    rfl
  | false =>
    have hr' : (withPorts p s).ports.rst = false := hrst.trans hr
    cases hb : s.booted with
    | false => rw [step_unbooted hr hb, step_unbooted hr' hb]
    | true =>
      by_cases hv : s.st = .idle ∧ s.ports.cmdValid = true
      · obtain ⟨t, ht⟩ := exec_answers (decode s.ports.command) s
        rw [step_accept hr hb hv.1 hv.2, step_accept hr' hb hv.1 (hvalid.trans hv.2), withPorts_ports, hdecode,
          withPorts_eq_withHost, exec_withHost p s.upcoming ht, ht, ← exec_upcoming ht]
        rfl
      · rw [step_quiet hr hb hv, step_quiet hr' hb (by simpa [hvalid] using hv), withPorts_eq_withHost,
          quietEdge_withHost, ← quietEdge_upcoming]
        rfl

/-- The ports show nothing of the host but `rk_sel` (R22). -/
theorem outputs_withPorts {p : Ports} {s : State} (h : p.rkSel = s.ports.rkSel) :
    outputs (withPorts p s) = outputs s := by
  simp only [outputs, withPorts_ports, h]
  rfl

/-- Other values on operand ports that leave the decoded command as it is have no effect (R85). -/
theorem operands_have_no_effect {s : State} {k m : Block}
    (hdecode : decode ⟨s.ports.cmdOp, k, m⟩ = decode s.ports.command) :
    step (withPorts { s.ports with keyIn := k, dataIn := m } s) = step s ∧
    outputs (withPorts { s.ports with keyIn := k, dataIn := m } s) = outputs s :=
  ⟨step_withPorts rfl rfl hdecode, outputs_withPorts rfl⟩

/-- Settles O3: an operand that the opcode does not read is not in the decoded command. -/
theorem unreadOperandsHaveNoEffect : Obligations.UnreadOperandsHaveNoEffect := by
  refine fun s k m => ⟨fun hop => ?_, fun hop => ?_, fun hop => ?_⟩
  · refine operands_have_no_effect ?_
    rcases hop with hop | hop | hop <;> simp [Ports.command, decode, hop]
  · refine operands_have_no_effect ?_
    rcases hop with hop | hop <;> simp [Ports.command, decode, hop]
  · refine operands_have_no_effect ?_
    simp [Ports.command, decode, hop]

end Machine
end Sys2Proof
end

section
/-!
PROOFS. A command in work, edge by edge: the engine after i rounds of the key schedule and after i Feistel rounds,
written out as a state (42_key_schedule.md R158, 44_cipher.md R190, R198, R199).
-/

namespace Sys2Proof.Machine

/-! ## The accept edges that load a key -/

theorem exec_ldkey_idle (k : Block) {s : State} (h : s.st = .idle) :
    exec (.ldkey k) s = .next (startKeySchedule k false s) :=
  accept_idle _ h

theorem exec_enck_idle (k m : Block) {s : State} (h : s.st = .idle) :
    exec (.enck k m) s = .next (startKeySchedule k true (loadBlock m false s)) :=
  accept_idle (fun s => startKeySchedule k true (loadBlock m false s)) h

theorem exec_deck_idle (k m : Block) {s : State} (h : s.st = .idle) :
    exec (.deck k m) s = .next (startKeySchedule k true (loadBlock m true s)) :=
  accept_idle (fun s => startKeySchedule k true (loadBlock m true s)) h

/-! ## The counter after i edges -/

theorem toNat_ofNat_of_lt {i : Nat} (h : i < 16) : (BitVec.ofNat 4 i).toNat = i := by
  simp [Nat.mod_eq_of_lt h]

theorem ofNat_eq_fifteen_iff {i : Nat} (h : i < 16) : BitVec.ofNat 4 i = 15#4 ↔ i = 15 := by
  decide +revert

theorem nextCnt_ofNat {i : Nat} (h : i < 16) : nextCnt (BitVec.ofNat 4 i) = BitVec.ofNat 4 (i + 1) := by
  decide +revert

/-! ## The key schedule -/

/-- The store with the first i round keys of k written over what it held (R158). -/
def fillStore (k : Block) (i : Nat) (rk : RoundKeys) : RoundKeys :=
  Vector.ofFn fun j => if j.val < i then (keySchedule k)[j] else rk[j]

theorem fillStore_zero (k : Block) (rk : RoundKeys) : fillStore k 0 rk = rk := by
  ext j hj
  simp [fillStore]

theorem fillStore_sixteen (k : Block) (rk : RoundKeys) : fillStore k 16 rk = keySchedule k := by
  ext j hj
  simp [fillStore]

/-- The KS edge of round i + 1 writes the next round key. -/
theorem writeKey_fillStore (k : Block) (rk : RoundKeys) {i : Nat} (h : i < 16) :
    writeKey (fillStore k i rk) (BitVec.ofNat 4 i)
      (roundKeyOf (keyHalves k (i + 1)).1 (keyHalves k (i + 1)).2) = fillStore k (i + 1) rk := by
  ext1 j hj
  rw [writeKey, Vector.getElem_set, toNat_ofNat_of_lt h]
  split
  · next hij => subst hij; simp [fillStore, keySchedule]
  · next hij =>
    have hlt : j ≤ i ↔ j < i := by omega
    simp [fillStore, hlt]

/-- The engine of s, i edges into the schedule of the key k, with the sequencing of the sixteenth edge at i = 16. -/
def keyScheduleAt (k : Block) (i : Nat) (s : State) : State :=
  { s with
    C := (keyHalves k i).1
    D := (keyHalves k i).2
    RK := fillStore k i s.RK
    keyValid := decide (i = 16)
    cnt := BitVec.ofNat 4 i
    st := if i = 16 then (if s.chain then .rnd else .idle) else .ks
    done := decide (i = 16) && !s.chain }

/-- The accept edge of a key load leaves the engine before the first round of the schedule. -/
theorem keyScheduleAt_zero (k : Block) (chain : Bool) (s : State) :
    keyScheduleAt k 0 (startKeySchedule k chain s) = startKeySchedule k chain s := by
  simp only [keyScheduleAt, startKeySchedule_RK, fillStore_zero]
  rfl

/-- A KS edge goes one round on in the schedule (R158). -/
theorem quietEdge_keyScheduleAt (k : Block) (s : State) {i : Nat} (h : i < 16) :
    quietEdge (keyScheduleAt k i s) = keyScheduleAt k (i + 1) s := by
  have hks : (keyScheduleAt k i s).st = .ks := if_neg h.ne
  have hcnt : roundNumber (keyScheduleAt k i s).cnt = i + 1 := congrArg (· + 1) (toNat_ofNat_of_lt h)
  rw [quietEdge_ks hks, ksEdge, hcnt]
  simp [keyScheduleAt, ← writeKey_fillStore k s.RK h, keyHalves, nextCnt_ofNat h, phaseAfterKs,
    ofNat_eq_fifteen_iff h, h.ne]

theorem keyScheduleAt_sixteen_RK (k : Block) (s : State) : (keyScheduleAt k 16 s).RK = keySchedule k :=
  fillStore_sixteen k s.RK

/-! ## The rounds of a block -/

theorem blockHalves_succ (k : RoundKeys) (m : Block) {i : Nat} (h : i < 16) :
    blockHalves k m (i + 1) = feistelRound (blockHalves k m i) k[i] := by
  simp [blockHalves, List.take_add_one, h]

theorem selectKey_ofNat (rk : RoundKeys) (dec : Bool) {i : Nat} (h : i < 16) :
    selectKey rk dec (BitVec.ofNat 4 i) = (keyOrder dec rk)[i] := by
  cases dec <;> simp [selectKey, keyOrder, Nat.mod_eq_of_lt h]

/-- The engine of s, i rounds into the block m, under its stored keys in its direction. -/
def roundsAt (m : Block) (i : Nat) (s : State) : State :=
  { s with
    L := (blockHalves (keyOrder s.dec s.RK) m i).1
    R := (blockHalves (keyOrder s.dec s.RK) m i).2
    cnt := BitVec.ofNat 4 i
    st := if i = 16 then .fin else .rnd
    done := false }

/-- An engine that stands before its first round with the halves of m is at round 0 of m. -/
theorem roundsAt_zero {m : Block} {s : State} (hst : s.st = .rnd) (hcnt : s.cnt = 0) (hdone : s.done = false)
    (hL : s.L = (initialHalves m).1) (hR : s.R = (initialHalves m).2) : roundsAt m 0 s = s := by
  cases s
  subst hst hcnt hdone hL hR
  rfl

/-- A RND edge goes one round on in the block (R198). -/
theorem quietEdge_roundsAt (m : Block) (s : State) {i : Nat} (h : i < 16) :
    quietEdge (roundsAt m i s) = roundsAt m (i + 1) s := by
  have hrnd : (roundsAt m i s).st = .rnd := if_neg h.ne
  rw [quietEdge_rnd hrnd, rndEdge]
  simp [roundsAt, selectKey_ofNat _ _ h, blockHalves_succ _ _ h, nextCnt_ofNat h, phaseAfterRnd,
    ofNat_eq_fifteen_iff h]

theorem quietEdge_roundsAt_sixteen (m : Block) (s : State) :
    quietEdge (roundsAt m 16 s) = finEdge (roundsAt m 16 s) :=
  quietEdge_fin rfl

/-- After the sixteenth round the FIN edge delivers `Crypt` under the stored keys in the order of the direction. -/
theorem finEdge_roundsAt_sixteen_DOUT (m : Block) (s : State) :
    (finEdge (roundsAt m 16 s)).DOUT = crypt (keyOrder s.dec s.RK) m := rfl

end Sys2Proof.Machine
end

section
/-!
PROOFS. Host scripts (30_encoding.md R87, R88; end of a run 45_commands.md R221): what a line does to the engine,
whatever else the host drives, and the scripts KEYSCHED, ENCRYPT and DECRYPT.
-/

namespace Sys2Proof.Machine

/-- The script comes to a cycle with the engine x, these lines left and these samples taken, whatever the host drives
in it. -/
def HostRun.Reaches (h : HostRun) (x : State) (todo : List HostAction) (samples : List RoundKey) : Prop :=
  ∃ n p us, h.run n = .next ⟨withHost p us x, todo, samples⟩

theorem HostRun.Reaches.start (s : State) (todo : List HostAction) (samples : List RoundKey) :
    HostRun.Reaches ⟨s, todo, samples⟩ s todo samples :=
  ⟨0, s.ports, s.upcoming, rfl⟩

/-- One cycle on, given what it does under every host. -/
theorem HostRun.Reaches.cycle {h : HostRun} {x y : State} {todo todo' : List HostAction}
    {samples samples' : List RoundKey} (hr : h.Reaches x todo samples)
    (hc : ∀ p us, ∃ p' us',
      HostRun.cycle ⟨withHost p us x, todo, samples⟩ = .next ⟨withHost p' us' y, todo', samples'⟩) :
    h.Reaches y todo' samples' := by
  obtain ⟨n, p, us, hn⟩ := hr
  obtain ⟨p', us', hc⟩ := hc p us
  exact ⟨n + 1, p', us', by rw [HostRun.run_add_of_next n 1 hn, HostRun.run_succ_of_cycle 0 hc]; rfl⟩

/-- With no command on the ports the engine takes its quiet edge. -/
theorem step_hold {x : State} (sel : BitVec 4) (p : Ports) (us : List Ports) (hb : x.booted = true) :
    step (withPorts (Ports.hold sel) (withHost p us x)) =
      .next (withHost (us.headD Ports.quiet) us.tail (quietEdge x)) := by
  rw [withPorts_withHost, step_quiet (s := withHost (Ports.hold sel) us x) rfl hb (by simp [Ports.hold, Ports.quiet]),
    quietEdge_withHost, driveNext_withHost]

/-- A waiting engine executes the command that is presented. -/
theorem step_present {i : Instr} {x y : State} (sel : BitVec 4) (p : Ports) (us : List Ports)
    (hb : x.booted = true) (hs : x.st = .idle) (he : exec i x = .next y) :
    step (withPorts (Ports.present (encode i) sel) (withHost p us x)) =
      .next (withHost (us.headD Ports.quiet) us.tail y) := by
  have hdecode : decode (Ports.present (encode i) sel).command = i := decode_encode i
  rw [withPorts_withHost, step_accept (s := withHost (Ports.present (encode i) sel) us x) rfl hb hs rfl,
    withHost_ports, hdecode, exec_withHost _ us he]
  rfl

section
variable {h : HostRun} {x y : State} {rest : List HostAction} {samples : List RoundKey}

/-- A command line that finds the engine waiting ends with its accept edge (R87). -/
theorem HostRun.Reaches.command {i : Instr} (hr : h.Reaches x (.command i :: rest) samples) (hb : x.booted = true)
    (hs : x.st = .idle) (he : exec i x = .next y) : h.Reaches y rest samples := by
  refine hr.cycle fun p us => ⟨Ports.hold p.rkSel, us.tail, ?_⟩
  simp only [HostRun.cycle, withHost_st, hs, if_true]
  exact HostRun.drive_of_step rest samples (step_present p.rkSel p us hb hs he)

/-- A WAIT before `done = 1` lets the engine take one edge (R88). -/
theorem HostRun.Reaches.waitEdge (hr : h.Reaches x (.wait :: rest) samples) (hb : x.booted = true)
    (hd : x.done = false) : h.Reaches (quietEdge x) (.wait :: rest) samples := by
  refine hr.cycle fun p us => ⟨Ports.hold p.rkSel, us.tail, ?_⟩
  simp only [HostRun.cycle, withHost_done, hd, Bool.false_eq_true, if_false]
  exact HostRun.drive_of_step _ samples (step_hold p.rkSel p us hb)

/-- A WAIT lets the engine go from f 0 through f 1, f 2, .. for as long as `done = 0` (R88). -/
theorem HostRun.Reaches.waitEdges {f : Nat → State} {n : Nat} (hr : h.Reaches (f 0) (.wait :: rest) samples)
    (hf : ∀ i < n, (f i).booted = true ∧ (f i).done = false ∧ quietEdge (f i) = f (i + 1)) :
    h.Reaches (f n) (.wait :: rest) samples := by
  induction n with
  | zero => exact hr
  | succ n ih =>
    obtain ⟨hb, hd, hnext⟩ := hf n n.lt_succ_self
    exact hnext ▸ (ih fun i hi => hf i (Nat.lt_succ_of_lt hi)).waitEdge hb hd

/-- A WAIT ends when `done = 1` (R88). -/
theorem HostRun.Reaches.waitDone (hr : h.Reaches x (.wait :: rest) samples) (hd : x.done = true) :
    h.Reaches x rest samples := by
  refine hr.cycle fun p us => ⟨p, us, ?_⟩
  simp only [HostRun.cycle, withHost_done, hd, if_true]

/-- READRK samples the selected entry of the store while the engine takes an edge (R88, R63). -/
theorem HostRun.Reaches.readRk {sel : BitVec 4} (hr : h.Reaches x (.readRk sel :: rest) samples)
    (hb : x.booted = true) : h.Reaches (quietEdge x) rest (samples ++ [x.RK[sel.toNat]]) := by
  refine hr.cycle fun p us => ⟨Ports.hold sel, us.tail, ?_⟩
  exact HostRun.drive_of_step rest _ (step_hold sel p us hb)

/-- READRK lines one after another, the engine waiting, sample the entries they select and leave it waiting. -/
theorem HostRun.Reaches.readRks {sels : List (BitVec 4)} (hr : h.Reaches x (sels.map .readRk) samples)
    (hb : x.booted = true) (hs : x.st = .idle) :
    ∃ y, h.Reaches y [] (samples ++ sels.map fun sel => x.RK[sel.toNat]) ∧ y.st = .idle := by
  induction sels generalizing x samples with
  | nil => exact ⟨x, by simpa using hr, hs⟩
  | cons sel sels ih =>
    have hnext : h.Reaches (idleEdge x) (sels.map .readRk) (samples ++ [x.RK[sel.toNat]]) :=
      quietEdge_idle hs ▸ hr.readRk hb
    simpa using ih hnext hb hs

/-- A script with no line left and the engine waiting has ended (R221). -/
theorem HostRun.Reaches.ended (hr : h.Reaches x [] samples) (hs : x.st = .idle) :
    ∃ n h', h.run n = .next h' ∧ h'.ended = true ∧ h'.samples = samples ∧ h'.state.DOUT = x.DOUT ∧
      h'.state.doutValid = x.doutValid := by
  obtain ⟨n, p, us, hn⟩ := hr
  exact ⟨n, _, hn, by simp [HostRun.ended, hs], rfl, rfl, rfl⟩

/-- A WAIT after the accept edge of a key load comes to the end of the key schedule. -/
theorem HostRun.Reaches.waitKeySchedule {k : Block} {chain : Bool}
    (hr : h.Reaches (startKeySchedule k chain x) (.wait :: rest) samples) (hb : x.booted = true) :
    h.Reaches (keyScheduleAt k 16 (startKeySchedule k chain x)) (.wait :: rest) samples := by
  rw [← keyScheduleAt_zero] at hr
  exact hr.waitEdges (f := fun i => keyScheduleAt k i (startKeySchedule k chain x)) fun i hi =>
    ⟨hb, by simp [keyScheduleAt, hi.ne], quietEdge_keyScheduleAt k _ hi⟩

/-- A WAIT before the first round of a block comes to the end of the command. -/
theorem HostRun.Reaches.waitRounds {m : Block} (hr : h.Reaches (roundsAt m 0 x) (.wait :: rest) samples)
    (hb : x.booted = true) : h.Reaches (finEdge (roundsAt m 16 x)) (.wait :: rest) samples := by
  have hlast : h.Reaches (roundsAt m 16 x) (.wait :: rest) samples :=
    hr.waitEdges (f := fun i => roundsAt m i x) fun i hi => ⟨hb, rfl, quietEdge_roundsAt m x hi⟩
  exact quietEdge_roundsAt_sixteen m x ▸ hlast.waitEdge hb rfl

end

/-- The selections 0 .. 15 read the whole store in order. -/
theorem map_getElem_range (rk : RoundKeys) :
    ((List.range 16).map (BitVec.ofNat 4)).map (fun sel => rk[sel.toNat]) = rk.toList := by
  refine List.ext_getElem (by simp) fun j hj _ => ?_
  have hj : j < 16 := by simpa using hj
  simp [toNat_ofNat_of_lt hj]

/-- The script KEYSCHED: the command, a WAIT, and a READRK for every selection (R88). -/
theorem expand_keysched (k : Block) :
    (Pseudo.keysched k).expand =
      .command (.ldkey k) :: .wait :: ((List.range 16).map (BitVec.ofNat 4)).map .readRk := by
  rw [List.map_map]
  rfl

/-- Settles O53: the WAIT lets the sixteen KS edges pass, and the READRK lines read the store they filled. -/
theorem keyschedScriptReadsTheKeySchedule : Obligations.KeyschedScriptReadsTheKeySchedule := by
  rintro s k ⟨hb, hs⟩
  have hstart := HostRun.Reaches.start s (Pseudo.keysched k).expand []
  rw [expand_keysched] at hstart ⊢
  have haccept := hstart.command hb hs (exec_ldkey_idle k hs)
  have hfilled := (haccept.waitKeySchedule hb).waitDone rfl
  obtain ⟨y, hread, hy⟩ := hfilled.readRks hb rfl
  obtain ⟨n, h, hn, hended, hsamples, -⟩ := hread.ended hy
  refine ⟨n, h, hn, hended, hsamples.trans ?_⟩
  rw [List.nil_append, map_getElem_range, keyScheduleAt_sixteen_RK]

/-- A command that loads a key and a block, and a WAIT, leave `Crypt` of the block in the key order of the direction. -/
theorem blockScript_delivers {i : Instr} {s : State} {k m : Block} {d : Bool} (hready : Ready s)
    (he : exec i s = .next (startKeySchedule k true (loadBlock m d s))) :
    ∃ n h, HostRun.run n ⟨s, [.command i, .wait], []⟩ = .next h ∧ h.ended = true ∧
      (outputs h.state).dataOut = crypt (keyOrder d (keySchedule k)) m ∧ (outputs h.state).doutValid = true := by
  obtain ⟨hb, hs⟩ := hready
  have haccept := (HostRun.Reaches.start s [.command i, .wait] []).command hb hs he
  have hrounds := haccept.waitKeySchedule hb
  rw [← roundsAt_zero (m := m) (s := keyScheduleAt k 16 _) rfl rfl rfl rfl rfl] at hrounds
  obtain ⟨n, h, hn, hended, -, hdout, hvalid⟩ := ((hrounds.waitRounds hb).waitDone rfl).ended rfl
  refine ⟨n, h, hn, hended, hdout.trans ?_, hvalid⟩
  rw [finEdge_roundsAt_sixteen_DOUT, keyScheduleAt_sixteen_RK]
  rfl

theorem encrypt_eq_crypt_keyOrder (k : RoundKeys) (m : Block) : encrypt k m = crypt (keyOrder false k) m := rfl

theorem decrypt_eq_crypt_keyOrder (k m : Block) : decrypt k m = crypt (keyOrder true (keySchedule k)) m := rfl

/-- Settles O54: ENCK and DECK load key and block, and differ in the direction only. -/
theorem encryptAndDecryptScriptsDeliverTheResult : Obligations.EncryptAndDecryptScriptsDeliverTheResult := by
  intro s k m hready
  rw [encrypt_eq_crypt_keyOrder, decrypt_eq_crypt_keyOrder]
  exact ⟨blockScript_delivers hready (exec_enck_idle k m hready.2),
    blockScript_delivers hready (exec_deck_idle k m hready.2)⟩

end Sys2Proof.Machine
end

section
/-!
PROOFS. The initial and the final permutation undo each other (41_tables.md R137 (b)): each table names every position
back at the place where the other one lists it, decided over the 64 entries.
-/

namespace Sys2Proof.Machine

theorem permute_tableIPinv_tableIP (v : Block) : permute tableIPinv (permute tableIP v) = v :=
  permute_permute_cancel tableIP tableIPinv (by decide) v

theorem permute_tableIP_tableIPinv (v : Block) : permute tableIP (permute tableIPinv v) = v :=
  permute_permute_cancel tableIPinv tableIP (by decide) v

/-- Settles O35: IP^-1 names the positions of IP back, and IP those of IP^-1. -/
theorem initialAndFinalPermutationsCancel : Obligations.InitialAndFinalPermutationsCancel := fun v =>
  ⟨permute_tableIPinv_tableIP v, permute_tableIP_tableIPinv v⟩

end Sys2Proof.Machine
end

section
/-!
PROOFS. The key schedule on the machine (42_key_schedule.md R152, R155, R158): a run of quiet edges with the host's port
values in each cycle, the store entry by entry, the key positions that PC-1 does not read, and the KS edge written out.
-/

namespace Sys2Proof.Machine

/-! ## Runs of edges that take no command -/

/-- One cycle on in what the host drives (log entry 1). -/
theorem headD_drop_upcoming (s : State) (n : Nat) :
    (s.upcoming.drop n).headD Ports.quiet = portsAt s (n + 1) := by
  simp [portsAt, List.headD_eq_head?_getD]

/-- A busy engine goes from f 0 through f 1, f 2, .. by its quiet edges, the host's port values moving on beside it. -/
theorem steps_quietEdges {f : Nat → State} {n : Nat}
    (hf : ∀ i < n, (f i).booted = true ∧ (f i).st ≠ .idle ∧ quietEdge (f i) = f (i + 1))
    (hr : NoResetFor n (f 0)) :
    steps n (f 0) = .next (withHost (portsAt (f 0) n) ((f 0).upcoming.drop n) (f n)) := by
  induction n with
  | zero => rfl
  | succ n ih =>
    obtain ⟨hb, hbusy, hnext⟩ := hf n n.lt_succ_self
    have hrun := ih (fun i hi => hf i (Nat.lt_succ_of_lt hi)) fun j hj => hr j (Nat.lt_succ_of_lt hj)
    have hstep := step_quiet (s := withHost (portsAt (f 0) n) ((f 0).upcoming.drop n) (f n)) (hr n n.lt_succ_self) hb
      fun h => hbusy h.1
    rw [steps_add_of_next n 1 hrun, steps_succ_of_next 0 hstep, steps_zero, quietEdge_withHost, driveNext_withHost,
      hnext, headD_drop_upcoming, List.tail_drop]

/-! ## The store during a key schedule -/

/-- What the host drives after an edge that left its coming values as they were is free of resets as before. -/
theorem NoResetFor.next_of_upcoming {n : Nat} {s u : State} (h : NoResetFor (n + 1) s)
    (hu : u.upcoming = s.upcoming) : NoResetFor n (driveNext u) := by
  intro j hj
  rw [portsAt_congr (t := driveNext s) (by simp [hu]) (by simp [hu])]
  exact h.next j hj

/-- A ready engine takes the presented command, and the host goes on (R211). -/
theorem step_presents {c : Instr} {s u : State} (hready : Ready s) (hp : Presents c s) (he : exec c s = .next u) :
    step s = .next (driveNext u) := by
  obtain ⟨hb, hs⟩ := hready
  obtain ⟨hrst, hvalid, hdecode⟩ := hp
  rw [step_accept hrst hb hs hvalid, hdecode, he]
  rfl

/-- The accept edge of a command that loads a key starts its schedule and keeps the store (R214, R217, R218). -/
theorem exec_loadedKey {c : Instr} {k : Block} {s : State} (hl : loadedKey c = some k) (hs : s.st = .idle) :
    ∃ chain x, exec c s = .next (startKeySchedule k chain x) ∧ x.booted = s.booted ∧ x.RK = s.RK := by
  cases c with
  | ldkey k' => cases hl; exact ⟨_, _, exec_ldkey_idle k hs, rfl, rfl⟩
  | enck k' m => cases hl; exact ⟨_, _, exec_enck_idle k m hs, rfl, rfl⟩
  | deck k' m => cases hl; exact ⟨_, _, exec_deck_idle k m hs, rfl, rfl⟩
  | nop | enc m | dec m | rsvd4 | rsvd5 => cases hl

/-- The i KS edges after the accept edge of a key load bring the engine i rounds into the schedule (R158). -/
theorem steps_keySchedule (k : Block) (chain : Bool) {x : State} {i : Nat} (hb : x.booted = true) (hi : i ≤ 16)
    (hr : NoResetFor i x) :
    steps i (startKeySchedule k chain x) =
      .next (withHost (portsAt x i) (x.upcoming.drop i) (keyScheduleAt k i (startKeySchedule k chain x))) := by
  have hrun := steps_quietEdges (f := fun j => keyScheduleAt k j (startKeySchedule k chain x)) (n := i)
    (fun j hj => by
      have hlt : j < 16 := by omega
      exact ⟨hb, by simp [keyScheduleAt, hlt.ne], quietEdge_keyScheduleAt k _ hlt⟩) hr
  rwa [keyScheduleAt_zero] at hrun

theorem fillStore_getElem (k : Block) (i : Nat) (rk : RoundKeys) (j : Fin 16) :
    (fillStore k i rk)[j] = if j.val < i then (keySchedule k)[j] else rk[j] := by
  simp [fillStore]

/-- Settles O50: the accept edge starts the schedule over the old store, and each KS edge goes one round on in it. -/
theorem keyScheduleFillsTheStoreInOrder : Obligations.KeyScheduleFillsTheStoreInOrder := by
  intro c k s i hl hready hp hi hr
  rw [Nat.add_comm] at hr ⊢
  obtain ⟨chain, x, he, hb, hRK⟩ := exec_loadedKey hl hready.2
  have hrest : NoResetFor i (driveNext x) := hr.next_of_upcoming (u := startKeySchedule k chain x) (exec_upcoming he)
  rw [steps_succ_of_next i (step_presents hready hp he)]
  refine ⟨_, steps_keySchedule k chain (x := driveNext x) (hb.trans hready.1) hi hrest, rfl, fun j => ?_, rfl⟩
  rw [← hRK]
  exact fillStore_getElem k i x.RK j

/-! ## Key positions that PC-1 does not read -/

/-- PC-1 reads no parity position (R123, R155). -/
theorem tablePC1_reads_no_parity :
    ∀ j : Fin 56, 1 ≤ tablePC1[j] ∧ tablePC1[j] ≤ 64 ∧ tablePC1[j] % 8 ≠ 0 := by
  decide

theorem keyPlus_congr {k k' : Block} (h : ∀ n, 1 ≤ n → n ≤ 64 → n % 8 ≠ 0 → bit k n = bit k' n) :
    keyPlus k = keyPlus k' :=
  permute_congr tablePC1 fun j => by
    obtain ⟨hpos, hle, hparity⟩ := tablePC1_reads_no_parity j
    exact h _ hpos hle hparity

/-- The key halves depend on the key through PC-1 only (R152). -/
theorem keyHalves_congr {k k' : Block} (h : keyPlus k = keyPlus k') (i : Nat) : keyHalves k i = keyHalves k' i := by
  have hzero : keyHalves k 0 = keyHalves k' 0 := by simp only [keyHalves, h]
  rw [keyHalves_eq_rotl28 k, keyHalves_eq_rotl28 k', hzero]

theorem keySchedule_congr {k k' : Block} (h : keyPlus k = keyPlus k') : keySchedule k = keySchedule k' := by
  simp only [keySchedule, keyHalves_congr h]

/-- An accept edge takes of the key what PC-1 gives (R214). -/
theorem startKeySchedule_congr {k k' : Block} (h : keyPlus k = keyPlus k') :
    startKeySchedule k = startKeySchedule k' := by
  funext chain s
  simp only [startKeySchedule, h]

/-- Settles O37: the engine uses a key through PC-1 only, which reads no parity position. -/
theorem parityBitsHaveNoEffect : Obligations.ParityBitsHaveNoEffect := by
  intro k k' hagree
  have hplus : keyPlus k = keyPlus k' := keyPlus_congr hagree
  refine ⟨hplus, keySchedule_congr hplus, fun s m => ?_⟩
  simp only [exec, execLdkey, execEnck, execDeck, startKeySchedule_congr hplus, and_self]

/-! ## The KS edge -/

/-- Settles O8: a KS step is `ksEdge` and the host's next cycle, whether or not the round is the last. -/
theorem ksEdgeRunsOneKeyScheduleRound : Obligations.KsEdgeRunsOneKeyScheduleRound := by
  intro s hb hrst hs
  rw [step_quiet hrst hb (by simp [hs]), quietEdge_ks hs]
  by_cases hlast : s.cnt = 15#4
  · cases hc : s.chain <;>
      simp [driveNext, ksEdge, roundKeyOf, writeKey, roundNumber, hlast, hc, nextCnt, phaseAfterKs]
  · simp [driveNext, ksEdge, roundKeyOf, writeKey, roundNumber, hlast, nextCnt, phaseAfterKs]

end Sys2Proof.Machine
end

section
/-!
PROOFS. The round function under complement (43_round_function.md R170 to R172): E only selects positions, so it commutes
with complement, and the key mixing cancels two complements before anything reaches the substitution.
-/

namespace Sys2Proof.Machine

/-- Every entry of E names a position 1..32 of the half-block (R137 (a)). -/
theorem tableE_inRange : TableInRange tableE 32 := by
  unfold TableInRange
  decide

theorem expand_not (r : Half) : expand (~~~r) = ~~~(expand r) :=
  permute_not tableE tableE_inRange r

/-- Settles O38: the input of the substitution is the same exclusive OR, the two complements in it cancelling. -/
theorem roundFunctionIgnoresJointComplement : Obligations.RoundFunctionIgnoresJointComplement := by
  intro r k
  have hmix : expand (~~~r) ^^^ ~~~k = expand r ^^^ k := by
    rw [expand_not, ← BitVec.not_xor_left, ← BitVec.not_xor_right, BitVec.not_not]
  rw [roundFunction, hmix, roundFunction]

end Sys2Proof.Machine
end

section
/-!
PROOFS. The cipher as a chain of rounds (44_cipher.md R190 to R200): a round undoes itself across the swap of the halves,
and rounds and key schedule commute with complement; then the RND and FIN edges, which run the cipher on the machine.
-/

namespace Sys2Proof.Machine

/-! ## Rounds across the swap of the halves (R192, R196) -/

/-- With the halves swapped, a round takes back the round with the same key. -/
theorem feistelRound_swap_feistelRound (lr : Half × Half) (k : RoundKey) :
    feistelRound (feistelRound lr k).swap k = lr.swap := by
  simp [feistelRound, Prod.swap]

/-- The rounds in reversed order take the rounds back, the last one first. -/
theorem foldl_reverse_feistelRound_swap (ks : List RoundKey) (lr : Half × Half) :
    ks.reverse.foldl feistelRound (ks.foldl feistelRound lr).swap = lr.swap := by
  induction ks generalizing lr with
  | nil => rfl
  | cons k ks ih =>
    calc (k :: ks).reverse.foldl feistelRound ((k :: ks).foldl feistelRound lr).swap
        = feistelRound (ks.reverse.foldl feistelRound (ks.foldl feistelRound (feistelRound lr k)).swap) k := by simp
      _ = feistelRound (feistelRound lr k).swap k := by rw [ih]
      _ = lr.swap := feistelRound_swap_feistelRound lr k

/-- `Crypt` runs all sixteen keys over the halves of the block (R190). -/
theorem blockHalves_sixteen (k : RoundKeys) (m : Block) :
    blockHalves k m 16 = k.toList.foldl feistelRound (initialHalves m) := by
  rw [blockHalves, List.take_of_length_le (by simp)]

/-- The initial step finds the halves that the final step swapped (R191, R194). -/
theorem initialHalves_finalBlock (l r : Half) : initialHalves (finalBlock l r) = (r, l) := by
  rw [initialHalves, finalBlock, permute_tableIP_tableIPinv, hi32_join32, lo32_join32]

/-- The final step over the swapped initial halves gives the block. -/
theorem finalBlock_initialHalves (m : Block) : finalBlock (initialHalves m).2 (initialHalves m).1 = m := by
  rw [finalBlock, initialHalves, join32_hi32_lo32, permute_tableIPinv_tableIP]

theorem crypt_reverse_crypt (k : RoundKeys) (m : Block) : crypt k.reverse (crypt k m) = m := by
  have hrounds : blockHalves k.reverse (crypt k m) 16 = (initialHalves m).swap := by
    rw [crypt, blockHalves_sixteen, initialHalves_finalBlock, Vector.toList_reverse, blockHalves_sixteen k]
    exact foldl_reverse_feistelRound_swap _ _
  rw [crypt, hrounds]
  exact finalBlock_initialHalves m

/-- Settles O40: the reversed keys take the rounds back, and reversing twice gives the keys. -/
theorem decryptionUndoesEncryption : Obligations.DecryptionUndoesEncryption := by
  refine ⟨crypt_reverse_crypt, fun key m => ?_⟩
  have hforth : crypt (keySchedule key).reverse (crypt (keySchedule key) m) = m := crypt_reverse_crypt _ m
  have hback : crypt (keySchedule key) (crypt (keySchedule key).reverse m) = m := by
    simpa using crypt_reverse_crypt (keySchedule key).reverse m
  exact ⟨hforth, hback, hforth⟩

/-! ## Keys that rotation leaves alone (95 section 5) -/

/-- Key halves that a turn by one position leaves alone are left alone by every turn. -/
theorem rotl28_eq_self {x : KeyHalf} (h : rotl28 x 1 = x) (n : Nat) : rotl28 x n = x := by
  induction n with
  | zero => exact rotl28_zero x
  | succ n ih => rw [← rotl28_rotl28, ih, h]

/-- A key whose halves no rotation changes has sixteen equal round keys (R152, R156). -/
theorem keySchedule_eq_replicate {key : Block} (hC : rotl28 (keyHalves key 0).1 1 = (keyHalves key 0).1)
    (hD : rotl28 (keyHalves key 0).2 1 = (keyHalves key 0).2) :
    keySchedule key = Vector.replicate 16 (roundKeyOf (keyHalves key 0).1 (keyHalves key 0).2) := by
  apply Vector.ext
  intro i hi
  simp [keySchedule, keyHalves_eq_rotl28 key (i + 1), rotl28_eq_self hC, rotl28_eq_self hD]

/-- Round keys that are their own reverse encrypt a block twice to itself. -/
theorem crypt_crypt_of_reverse_eq {k : RoundKeys} (h : k.reverse = k) (m : Block) : crypt k (crypt k m) = m := by
  simpa [h] using crypt_reverse_crypt k m

/-- Settles O42: PC-1 of each of the four keys has halves of equal bits, so its round keys are equal. -/
theorem selfReverseKeysEncryptTwiceToTheBlock : Obligations.SelfReverseKeysEncryptTwiceToTheBlock := by
  intro key hkey m
  have hturn : rotl28 (keyHalves key 0).1 1 = (keyHalves key 0).1 ∧
      rotl28 (keyHalves key 0).2 1 = (keyHalves key 0).2 := by
    rcases hkey with rfl | rfl | rfl | rfl <;> decide +kernel
  have hrev : (keySchedule key).reverse = keySchedule key := by
    rw [keySchedule_eq_replicate hturn.1 hturn.2, Vector.reverse_replicate]
  exact ⟨crypt_crypt_of_reverse_eq hrev m, by rw [decrypt, hrev]⟩

/-! ## Complement (R200) -/

/-- A field cut out of a complement is the complement of the field (R101). -/
theorem extractLsb'_not {w : Nat} (v : BitVec w) {start len : Nat} (h : start + len ≤ w) :
    (~~~v).extractLsb' start len = ~~~(v.extractLsb' start len) := by
  apply BitVec.eq_of_getLsbD_eq
  intro i hi
  have hlt : start + i < w := by omega
  simp [hi, hlt]

theorem rotl28_not (x : KeyHalf) (n : Nat) : rotl28 (~~~x) n = ~~~(rotl28 x n) := by
  apply BitVec.eq_of_getMsbD_eq
  intro i hi
  have hlt : (n + i) % 28 < 28 := Nat.mod_lt _ (by decide)
  simp [rotl28, BitVec.getMsbD_rotateLeft, hi, hlt]

theorem hi32_not (v : Block) : hi32 (~~~v) = ~~~(hi32 v) := extractLsb'_not v (by decide)
theorem lo32_not (v : Block) : lo32 (~~~v) = ~~~(lo32 v) := extractLsb'_not v (by decide)
theorem hi28_not (v : KeyPlus) : hi28 (~~~v) = ~~~(hi28 v) := extractLsb'_not v (by decide)
theorem lo28_not (v : KeyPlus) : lo28 (~~~v) = ~~~(lo28 v) := extractLsb'_not v (by decide)

/-! The tables that key and block go through name positions of their sources (R137 (a)). -/

theorem tableIP_inRange : TableInRange tableIP 64 := by unfold TableInRange; decide
theorem tableIPinv_inRange : TableInRange tableIPinv 64 := by unfold TableInRange; decide
theorem tablePC1_inRange : TableInRange tablePC1 64 := by unfold TableInRange; decide
theorem tablePC2_inRange : TableInRange tablePC2 56 := by unfold TableInRange; decide

theorem keyPlus_not (key : Block) : keyPlus (~~~key) = ~~~(keyPlus key) :=
  permute_not tablePC1 tablePC1_inRange key

/-- The key halves of the complemented key are the complements in every round (R152). -/
theorem keyHalves_not (key : Block) (i : Nat) :
    keyHalves (~~~key) i = (~~~(keyHalves key i).1, ~~~(keyHalves key i).2) := by
  induction i with
  | zero => simp only [keyHalves, keyPlus_not, hi28_not, lo28_not]
  | succ i ih => simp only [keyHalves, ih, rotl28_not]

theorem roundKeyOf_not (c d : KeyHalf) : roundKeyOf (~~~c) (~~~d) = ~~~(roundKeyOf c d) := by
  rw [roundKeyOf, join28_not, permute_not _ tablePC2_inRange, roundKeyOf]

/-- Every round key of the complemented key is the complement of that round key. -/
theorem keySchedule_not_getElem (key : Block) {i : Nat} (h : i < 16) :
    (keySchedule (~~~key))[i] = ~~~(keySchedule key)[i] := by
  simp [keySchedule, keyHalves_not, roundKeyOf_not]

theorem initialHalves_not (m : Block) : initialHalves (~~~m) = (~~~(initialHalves m).1, ~~~(initialHalves m).2) := by
  rw [initialHalves, permute_not _ tableIP_inRange, hi32_not, lo32_not, initialHalves]

theorem finalBlock_not (l r : Half) : finalBlock (~~~l) (~~~r) = ~~~(finalBlock l r) := by
  rw [finalBlock, join32_not, permute_not _ tableIPinv_inRange, finalBlock]

/-- A round under complemented halves and key complements the halves, since F does not see the two complements (R170). -/
theorem feistelRound_not (lr : Half × Half) (k : RoundKey) :
    feistelRound (~~~lr.1, ~~~lr.2) (~~~k) = (~~~(feistelRound lr k).1, ~~~(feistelRound lr k).2) := by
  rw [feistelRound, roundFunctionIgnoresJointComplement, ← BitVec.not_xor_left, feistelRound]

/-- After every round the halves under complemented key and block are the complements. -/
theorem blockHalves_not (key m : Block) {i : Nat} (h : i ≤ 16) :
    blockHalves (keySchedule (~~~key)) (~~~m) i =
      (~~~(blockHalves (keySchedule key) m i).1, ~~~(blockHalves (keySchedule key) m i).2) := by
  induction i with
  | zero => exact initialHalves_not m
  | succ i ih =>
    rw [blockHalves_succ _ _ h, ih (Nat.le_of_lt h), keySchedule_not_getElem key h, feistelRound_not,
      ← blockHalves_succ _ _ h]

/-- Settles O41: complement passes the initial step, the sixteen rounds and the final step. -/
theorem cipherCommutesWithComplement : Obligations.CipherCommutesWithComplement := by
  intro key m
  rw [crypt, blockHalves_not key m (Nat.le_refl 16), finalBlock_not, crypt]

/-! ## The edges of the cipher (R193, R198, R199) -/

/-- Settles O39: the index read from the end is the index in the reversed sequence. -/
theorem roundKeySelectionIsTheSequenceInOrder : Obligations.RoundKeySelectionIsTheSequenceInOrder := by
  refine fun rk cnt => ⟨rfl, rfl, fun d => ?_⟩
  simpa using selectKey_ofNat rk d cnt.isLt

/-- Settles O9: a RND step is `rndEdge` and the host's next cycle, with one Feistel round, `selectKey` and the
sequencing functions written out. -/
theorem rndEdgeRunsOneFeistelRound : Obligations.RndEdgeRunsOneFeistelRound := by
  intro s hb hrst hs
  rw [step_quiet hrst hb (by simp [hs]), quietEdge_rnd hs]
  simp [driveNext, rndEdge, feistelRound, selectKey, nextCnt, phaseAfterRnd]

/-- Settles O10: a FIN step is `finEdge` and the host's next cycle, in which the ports show DOUT and the flags. -/
theorem finEdgeDeliversTheResult : Obligations.FinEdgeDeliversTheResult := by
  intro s hb hrst hs
  refine ⟨driveNext (finEdge s), ?_, rfl, rfl, rfl, rfl, rfl⟩
  rw [step_quiet hrst hb (by simp [hs]), quietEdge_fin hs]

end Sys2Proof.Machine
end

section
/-!
PROOFS. The commands (45_commands.md): what an edge does with the command on the ports, the accept edge of each command,
and each command run from its accept edge to its last (R211 to R220).
-/

namespace Sys2Proof.Machine

/-! ## One edge (R210 to R212) -/

/-- Settles O4: a ready engine takes the command, and for a busy one every command is the state's own edge. -/
theorem stepRunsThePresentedCommand : Obligations.StepRunsThePresentedCommand := by
  intro s i hb hp
  by_cases hs : s.st = .idle
  · obtain ⟨t, ht⟩ := exec_answers i s
    exact ⟨t, ht, step_presents ⟨hb, hs⟩ hp ht⟩
  · obtain ⟨hrst, -⟩ := hp
    exact ⟨_, exec_busy i hs, step_quiet hrst hb fun h => hs h.1⟩

/-- Of the ports a busy engine reads `rst` only (R212). -/
theorem step_withPorts_busy {p q : Ports} {s : State} (hs : s.st ≠ .idle) (hrst : p.rst = q.rst) :
    step (withPorts p s) = step (withPorts q s) := by
  cases hr : q.rst with
  | true =>
    rw [step_reset (s := withPorts p s) (hrst.trans hr), step_reset (s := withPorts q s) hr]
    rfl
  | false =>
    have hr' : (withPorts p s).ports.rst = false := hrst.trans hr
    cases hb : s.booted with
    | false => rw [step_unbooted hr' hb, step_unbooted (s := withPorts q s) hr hb]
    | true =>
      rw [step_quiet hr' hb fun h => hs h.1, step_quiet (s := withPorts q s) hr hb fun h => hs h.1]
      simp only [withPorts_eq_withHost, quietEdge_withHost, driveNext_withHost]

/-- Outside IDLE no edge but reset writes `err` (R244). -/
theorem Edge.err_eq {s u : State} (he : Edge s u) (hrst : s.ports.rst = false) (hs : s.st ≠ .idle) :
    u.err = s.err := by
  cases he with
  | reset hr => simp [hr] at hrst
  | complete _ _ hi | block _ _ _ _ hi | key _ _ _ hi | keyAndBlock _ _ _ _ _ hi => exact absurd hi hs
  | idle | ks | rnd | fin => rfl

/-- Settles O5: a busy engine takes its own edge, which reads no command and writes no `err`. -/
theorem busyEngineSamplesNoCommand : Obligations.BusyEngineSamplesNoCommand := by
  refine fun s hs => ⟨fun p q => step_withPorts_busy hs, fun i j => ?_, fun t hrst hstep => ?_⟩
  · rw [exec_busy i hs, exec_busy j hs]
  · obtain ⟨u, he, rfl⟩ := edge_of_step hstep
    exact he.err_eq hrst hs

/-- Settles O7: the edge is `idleEdge`, followed by the host's next cycle. -/
theorem idleEdgeOnlyClearsDone : Obligations.IdleEdgeOnlyClearsDone := by
  intro s hb hrst hs hv
  rw [step_quiet hrst hb (by simp [hv]), quietEdge_idle hs]
  rfl

/-- Settles O23: reset, the eight outcomes of an accept edge, and the four FSM states are the rows of the table. -/
theorem fsmFollowsTheTransitionTable : Obligations.FsmFollowsTheTransitionTable := by
  intro s t hstep
  rcases step_accepted_cases hstep with ⟨hr, -, rfl⟩ | ⟨hr, hs, i, u, ha, he, rfl⟩ | ⟨hr, ha, rfl⟩
  · simp [hr]
  · rcases exec_idle_cases hs he with ⟨rfl, rfl⟩ | ⟨rfl | rfl, rfl⟩ | ⟨k, rfl, rfl⟩ | ⟨m, rfl | rfl, hk, rfl⟩ |
      ⟨m, rfl, hk, rfl⟩ | ⟨m, rfl, hk, rfl⟩ | ⟨k, m, rfl, rfl⟩ | ⟨k, m, rfl, rfl⟩ <;>
      simp [*]
  · cases hs : s.st with
    | idle => simp [quietEdge_idle hs, hr, ha, hs]
    | ks =>
      by_cases hc : s.cnt = 15#4
      · cases hch : s.chain <;> simp [quietEdge_ks hs, hr, hc, hch, nextCnt, phaseAfterKs]
      · simp [quietEdge_ks hs, hr, hc, nextCnt, phaseAfterKs]
    | rnd => by_cases hc : s.cnt = 15#4 <;> simp [quietEdge_rnd hs, hr, hc, nextCnt, phaseAfterRnd]
    | fin => simp [quietEdge_fin hs, hr]

/-! ## The accept edges (R213 to R219) -/

theorem exec_nop_idle {s : State} (h : s.st = .idle) : exec .nop s = .next (completeWith .ok s) :=
  accept_idle _ h

theorem exec_rsvd4_idle {s : State} (h : s.st = .idle) : exec .rsvd4 s = .next (raise .illegalCmd s) :=
  accept_idle _ h

theorem exec_rsvd5_idle {s : State} (h : s.st = .idle) : exec .rsvd5 s = .next (raise .illegalCmd s) :=
  accept_idle _ h

theorem exec_enc_idle (m : Block) {s : State} (h : s.st = .idle) (hk : s.keyValid = true) :
    exec (.enc m) s = .next (startRounds (loadBlock m false s)) := by
  rw [exec, execEnc, accept_idle _ h, if_pos hk]

theorem exec_dec_idle (m : Block) {s : State} (h : s.st = .idle) (hk : s.keyValid = true) :
    exec (.dec m) s = .next (startRounds (loadBlock m true s)) := by
  rw [exec, execDec, accept_idle _ h, if_pos hk]

/-- Settles O13: the row 000 of the opcode map, and the accept edge of NOP. -/
theorem nopWritesOkAndDone : Obligations.NopWritesOkAndDone :=
  ⟨fun _ _ => rfl, fun _ => exec_nop_idle⟩

/-- Settles O14: the rows 100 and 101 of the opcode map, and the accept edges that raise ILLEGAL_CMD. -/
theorem reservedOpcodesRaiseIllegalCmd : Obligations.ReservedOpcodesRaiseIllegalCmd :=
  ⟨rfl, fun _ _ => ⟨rfl, rfl⟩, fun _ hs => ⟨exec_rsvd4_idle hs, exec_rsvd5_idle hs⟩⟩

/-- Settles O15: `startKeySchedule` written out. -/
theorem ldkeyStartsAKeySchedule : Obligations.LdkeyStartsAKeySchedule :=
  fun _ k hs => exec_ldkey_idle k hs

/-- Settles O16: `startRounds` after `loadBlock`, written out. -/
theorem encStartsForwardRounds : Obligations.EncStartsForwardRounds :=
  fun _ m hs hk => exec_enc_idle m hs hk

/-- Settles O17: `startRounds` after `loadBlock`, written out. -/
theorem decStartsReversedRounds : Obligations.DecStartsReversedRounds :=
  fun _ m hs hk => exec_dec_idle m hs hk

/-- Settles O19: `startKeySchedule` after `loadBlock`, written out. -/
theorem enckLoadsKeyAndBlock : Obligations.EnckLoadsKeyAndBlock :=
  fun _ k m hs => exec_enck_idle k m hs

/-- Settles O20: `startKeySchedule` after `loadBlock`, written out. -/
theorem deckLoadsKeyAndBlock : Obligations.DeckLoadsKeyAndBlock :=
  fun _ k m hs => exec_deck_idle k m hs

/-- Settles O22: an accept edge is made of `completeWith`, `startRounds`, `loadBlock` and `startKeySchedule`, and none of
them names RK, DOUT, the ports or the model's own fields. -/
theorem acceptEdgesKeepWhatTheyDoNotName : Obligations.AcceptEdgesKeepWhatTheyDoNotName := by
  intro i s t hs he
  rcases exec_idle_cases hs he with ⟨rfl, rfl⟩ | ⟨rfl | rfl, rfl⟩ | ⟨k, rfl, rfl⟩ | ⟨m, rfl | rfl, -, rfl⟩ |
    ⟨m, rfl, -, rfl⟩ | ⟨m, rfl, -, rfl⟩ | ⟨k, m, rfl, rfl⟩ | ⟨k, m, rfl, rfl⟩ <;>
    simp [loadedKey, blockOperation, hs]

/-! ## Commands edge by edge -/

/-- The engine of s is that of x after n steps, with the host n cycles on in what it drives. -/
def RunsTo (n : Nat) (s x : State) : Prop :=
  steps n s = .next (withHost (portsAt s n) (s.upcoming.drop n) x)

/-- The host m cycles on drives in n cycles what it drives in m + n. -/
theorem portsAt_withHost_drop (s x : State) (m n : Nat) :
    portsAt (withHost (portsAt s m) (s.upcoming.drop m) x) n = portsAt s (m + n) := by
  cases n with
  | zero => rfl
  | succ n => simp [portsAt, withHost, ← Nat.add_assoc]

/-- The accept edge of a presented command (R211). -/
theorem RunsTo.accept {c : Instr} {s x : State} (hready : Ready s) (hp : Presents c s) (he : exec c s = .next x) :
    RunsTo 1 s x := by
  have hnext : driveNext x = withHost (portsAt s 1) (s.upcoming.drop 1) x := by
    rw [← headD_drop_upcoming, driveNext, exec_upcoming he, ← List.tail_drop]
    rfl
  rw [RunsTo, steps_succ_of_next 0 (step_presents hready hp he), steps_zero, hnext]

/-- From f 0 a busy engine goes on through f 1, f 2, .. by its quiet edges. -/
theorem RunsTo.quietEdges {s : State} {f : Nat → State} {m n : Nat} (h : RunsTo m s (f 0))
    (hf : ∀ i < n, (f i).booted = true ∧ (f i).st ≠ .idle ∧ quietEdge (f i) = f (i + 1))
    (hr : NoResetFor (m + n) s) : RunsTo (m + n) s (f n) := by
  have hrun := steps_quietEdges (f := fun i => withHost (portsAt s m) (s.upcoming.drop m) (f i)) (n := n)
    (fun i hi => by
      obtain ⟨hb, hbusy, hnext⟩ := hf i hi
      exact ⟨hb, hbusy, by rw [quietEdge_withHost, hnext]⟩)
    (fun j hj => by
      rw [portsAt_withHost_drop]
      exact hr (m + j) (Nat.add_lt_add_left hj m))
  rw [RunsTo, steps_add_of_next m n h, hrun, portsAt_withHost_drop, ← List.drop_drop]
  rfl

section
variable {s x : State} {n : Nat}

/-- The first i ≤ 16 edges of a key schedule (R158). -/
theorem RunsTo.keySchedule {k : Block} {chain : Bool} {i : Nat} (h : RunsTo n s (startKeySchedule k chain x))
    (hb : x.booted = true) (hi : i ≤ 16) (hr : NoResetFor (n + i) s) :
    RunsTo (n + i) s (keyScheduleAt k i (startKeySchedule k chain x)) := by
  rw [← keyScheduleAt_zero] at h
  refine h.quietEdges (f := fun j => keyScheduleAt k j (startKeySchedule k chain x)) (fun j hj => ?_) hr
  have hlt : j < 16 := Nat.lt_of_lt_of_le hj hi
  exact ⟨hb, by simp [keyScheduleAt, hlt.ne], quietEdge_keyScheduleAt k _ hlt⟩

/-- The first i ≤ 16 rounds of a block (R198). -/
theorem RunsTo.rounds {m : Block} {i : Nat} (h : RunsTo n s (roundsAt m 0 x)) (hb : x.booted = true) (hi : i ≤ 16)
    (hr : NoResetFor (n + i) s) : RunsTo (n + i) s (roundsAt m i x) := by
  refine h.quietEdges (f := fun j => roundsAt m j x) (fun j hj => ?_) hr
  have hlt : j < 16 := Nat.lt_of_lt_of_le hj hi
  exact ⟨hb, by simp [roundsAt, hlt.ne], quietEdge_roundsAt m x hlt⟩

/-- One edge of a busy engine (R212). -/
theorem RunsTo.busyEdge (h : RunsTo n s x) (hb : x.booted = true) (hbusy : x.st ≠ .idle)
    (hr : NoResetFor (n + 1) s) : RunsTo (n + 1) s (quietEdge x) :=
  h.quietEdges (f := fun j => quietEdge^[j] x) (n := 1)
    (fun j hj => by
      obtain rfl : j = 0 := Nat.lt_one_iff.1 hj
      exact ⟨hb, hbusy, rfl⟩) hr

end

/-! ## Whole commands (R214 to R218) -/

/-- Seventeen edges of a command that loads a key, a block or none with it, end its schedule. -/
theorem RunsTo.keyCommand {c : Instr} {k : Block} {chain : Bool} {s x : State} (hready : Ready s)
    (hp : Presents c s) (he : exec c s = .next (startKeySchedule k chain x)) (hb : x.booted = s.booted)
    (hr : NoResetFor 17 s) : RunsTo 17 s (keyScheduleAt k 16 (startKeySchedule k chain x)) :=
  (RunsTo.accept hready hp he).keySchedule (hb.trans hready.1) (Nat.le_refl 16) hr

/-- Settles O43: the schedule is complete after its sixteenth edge, with C and D a full turn on. -/
theorem ldkeyDerivesTheKeySchedule : Obligations.LdkeyDerivesTheKeySchedule := by
  intro s k hready hp hr
  have hturn : keyHalves k 16 = (hi28 (keyPlus k), lo28 (keyPlus k)) := keyHalvesComeFullTurn.2 k
  exact ⟨_, RunsTo.keyCommand hready hp (exec_ldkey_idle k hready.2) rfl hr, keyScheduleAt_sixteen_RK k _,
    rfl, rfl, rfl, rfl, rfl, rfl, congrArg Prod.fst hturn, congrArg Prod.snd hturn, rfl, rfl, rfl, rfl, rfl⟩

/-- From its round 0 on, a block takes sixteen rounds and the FIN edge. -/
theorem RunsTo.block {m : Block} {n : Nat} {s x : State} (h : RunsTo n s x) (hx : roundsAt m 0 x = x)
    (hb : x.booted = true) (hr : NoResetFor (n + 17) s) : RunsTo (n + 17) s (finEdge (roundsAt m 16 x)) := by
  rw [← hx] at h
  have hrounds : RunsTo (n + 16) s (roundsAt m 16 x) :=
    h.rounds hb (Nat.le_refl 16) fun j hj => hr j (Nat.lt_succ_of_lt hj)
  exact quietEdge_roundsAt_sixteen m x ▸ hrounds.busyEdge hb nofun hr

/-- Eighteen edges of a block command under the stored keys end with the FIN edge. -/
theorem RunsTo.blockCommand {c : Instr} {m : Block} {d : Bool} {s : State} (hready : Ready s) (hp : Presents c s)
    (he : exec c s = .next (startRounds (loadBlock m d s))) (hr : NoResetFor 18 s) :
    RunsTo 18 s (finEdge (roundsAt m 16 (startRounds (loadBlock m d s)))) :=
  (RunsTo.accept hready hp he).block (roundsAt_zero rfl rfl rfl rfl rfl) hready.1 hr

/-- Thirty-four edges of a command that loads a key and a block end with the FIN edge. -/
theorem RunsTo.keyAndBlockCommand {c : Instr} {k m : Block} {d : Bool} {s : State} (hready : Ready s)
    (hp : Presents c s) (he : exec c s = .next (startKeySchedule k true (loadBlock m d s))) (hr : NoResetFor 34 s) :
    RunsTo 34 s (finEdge (roundsAt m 16 (keyScheduleAt k 16 (startKeySchedule k true (loadBlock m d s))))) :=
  (RunsTo.keyCommand hready hp he rfl fun j hj => hr j (by omega)).block (roundsAt_zero rfl rfl rfl rfl rfl) hready.1 hr

theorem keyOrder_false (k : RoundKeys) : keyOrder false k = k := rfl

theorem keyOrder_true (k : RoundKeys) : keyOrder true k = k.reverse := rfl

/-- A block command under the stored keys delivers `Crypt` in the key order of its direction. -/
theorem blockCommand_delivers {c : Instr} {m : Block} {d : Bool} {s : State} (hready : Ready s) (hp : Presents c s)
    (he : exec c s = .next (startRounds (loadBlock m d s))) (hk : s.keyValid = true) (hr : NoResetFor 18 s) :
    ∃ t, steps 18 s = .next t ∧ t.DOUT = crypt (keyOrder d s.RK) m ∧ t.doutValid = true ∧ t.done = true ∧
      t.st = .idle ∧ t.cnt = 0 ∧ t.err = .ok ∧ t.dec = d ∧ t.RK = s.RK ∧ t.keyValid = true ∧
      t.C = s.C ∧ t.D = s.D ∧ t.chain = s.chain :=
  ⟨_, RunsTo.blockCommand hready hp he hr, finEdge_roundsAt_sixteen_DOUT m (startRounds (loadBlock m d s)),
    rfl, rfl, rfl, rfl, rfl, rfl, rfl, hk, rfl, rfl, rfl⟩

/-- Settles O44: forward order is the stored keys themselves. -/
theorem encEncryptsWithTheStoredKeys : Obligations.EncEncryptsWithTheStoredKeys := by
  intro s m hready hp hk hr
  have h := blockCommand_delivers hready hp (exec_enc_idle m hready.2 hk) hk hr
  rwa [keyOrder_false] at h

/-- Settles O45: reversed order is the reversed sequence of the stored keys. -/
theorem decDecryptsWithTheStoredKeys : Obligations.DecDecryptsWithTheStoredKeys := by
  intro s m hready hp hk hr
  have h := blockCommand_delivers hready hp (exec_dec_idle m hready.2 hk) hk hr
  rwa [keyOrder_true] at h

/-- A command that loads a key and a block delivers `Crypt` under the schedule of the key, in the key order of its
direction. -/
theorem keyAndBlockCommand_delivers {c : Instr} {k m : Block} {d : Bool} {s : State} (hready : Ready s)
    (hp : Presents c s) (he : exec c s = .next (startKeySchedule k true (loadBlock m d s))) (hr : NoResetFor 34 s) :
    ∃ t, steps 34 s = .next t ∧ t.DOUT = crypt (keyOrder d (keySchedule k)) m ∧ t.doutValid = true ∧ t.done = true ∧
      t.st = .idle ∧ t.cnt = 0 ∧ t.err = .ok ∧ t.dec = d ∧ t.chain = true ∧ t.RK = keySchedule k ∧
      t.keyValid = true := by
  have hRK := keyScheduleAt_sixteen_RK k (startKeySchedule k true (loadBlock m d s))
  refine ⟨_, RunsTo.keyAndBlockCommand hready hp he hr, ?_, rfl, rfl, rfl, rfl, rfl, rfl, rfl, hRK, rfl⟩
  rw [← hRK]
  exact finEdge_roundsAt_sixteen_DOUT m _

/-- Settles O46: the rounds after the schedule read the store it filled in forward order. -/
theorem enckLoadsAKeyAndEncrypts : Obligations.EnckLoadsAKeyAndEncrypts := by
  intro s k m hready hp hr
  have h := keyAndBlockCommand_delivers hready hp (exec_enck_idle k m hready.2) hr
  rwa [keyOrder_false] at h

/-- Settles O47: the rounds after the schedule read the store it filled in reversed order. -/
theorem deckLoadsAKeyAndDecrypts : Obligations.DeckLoadsAKeyAndDecrypts := by
  intro s k m hready hp hr
  have h := keyAndBlockCommand_delivers hready hp (exec_deck_idle k m hready.2) hr
  rwa [← decrypt_eq_crypt_keyOrder] at h

/-- Settles O52: ENC keeps the store and the engine ready, so DEC runs `Crypt` under the reversed keys of the ENC. -/
theorem decOfTheResultOfEncGivesTheBlockBack : Obligations.DecOfTheResultOfEncGivesTheBlockBack := by
  intro s t m p hready hp hk hr hsteps hp' hr'
  have hrun := RunsTo.blockCommand hready hp (exec_enc_idle m hready.2 hk) hr
  have ht := Host.Outcome.next.inj (hsteps.symm.trans hrun)
  obtain ⟨hready', hk', hRK, henc⟩ :
      Ready (withPorts p t) ∧ (withPorts p t).keyValid = true ∧ t.RK = s.RK ∧ t.DOUT = crypt s.RK m := by
    rw [ht]
    exact ⟨⟨hready.1, rfl⟩, hk, rfl, rfl⟩
  obtain ⟨u, hu, hdec, hvalid, hdone, -⟩ := decDecryptsWithTheStoredKeys _ _ hready' hp' hk' hr'
  exact ⟨u, hu, by rw [hdec, withPorts_RK, hRK, henc, crypt_reverse_crypt], hvalid, hdone⟩

end Sys2Proof.Machine
end

section
/-!
PROOFS. Errors and observation (60_exceptions.md): an accept edge that raises an error (R243, R249), every write of `err`
(R244), and what the trace ports show of the rounds of a block (R256).
-/

namespace Sys2Proof.Machine

/-! ## The rounds on the trace ports (R256) -/

/-- The accept edge of a block command under the stored keys starts its rounds (R215, R216). -/
theorem exec_storedKeyBlock {c : Instr} {d : Bool} {m : Block} {s : State} (hl : loadedKey c = none)
    (hb : blockOperation c = some (d, m)) (hs : s.st = .idle) (hk : s.keyValid = true) :
    exec c s = .next (startRounds (loadBlock m d s)) := by
  cases c with
  | enc m' => cases hb; exact exec_enc_idle m hs hk
  | dec m' => cases hb; exact exec_dec_idle m hs hk
  | nop | ldkey k | rsvd4 | rsvd5 => cases hb
  | enck k m' | deck k m' => cases hl

/-- The accept edge of a command that loads a key and a block starts a schedule that continues with the block
(R217, R218). -/
theorem exec_keyAndBlock {c : Instr} {k : Block} {d : Bool} {m : Block} {s : State} (hl : loadedKey c = some k)
    (hb : blockOperation c = some (d, m)) (hs : s.st = .idle) :
    exec c s = .next (startKeySchedule k true (loadBlock m d s)) := by
  cases c with
  | enck k' m' => cases hl; cases hb; exact exec_enck_idle k m hs
  | deck k' m' => cases hl; cases hb; exact exec_deck_idle k m hs
  | nop | ldkey k' | rsvd4 | rsvd5 => cases hb
  | enc m' | dec m' => cases hl

/-- From its round 0 on, a block comes to its round i ≤ 16 in i edges (R198). -/
theorem RunsTo.roundsOfBlock {m : Block} {n i : Nat} {s x : State} (h : RunsTo n s x) (hx : roundsAt m 0 x = x)
    (hb : x.booted = true) (hi : i ≤ 16) (hr : NoResetFor (n + i) s) : RunsTo (n + i) s (roundsAt m i x) := by
  rw [← hx] at h
  exact h.rounds hb hi hr

/-- A block command comes to its round j: one edge (the accept edge) or, with a key to load, seventeen before the rounds,
which run under the keys of the command in the order of its direction. -/
theorem runsTo_roundsAt_of_blockOperation {c : Instr} {d : Bool} {m : Block} {s : State} {j : Nat}
    (hb : blockOperation c = some (d, m)) (hready : Ready s) (hp : Presents c s)
    (hk : loadedKey c = none → s.keyValid = true) (hj : j ≤ 16)
    (hr : NoResetFor ((loadedKey c).elim 1 (fun _ => 17) + j) s) :
    ∃ x, RunsTo ((loadedKey c).elim 1 (fun _ => 17) + j) s (roundsAt m j x) ∧
      keyOrder x.dec x.RK = keyOrder d ((loadedKey c).elim s.RK keySchedule) := by
  cases hl : loadedKey c with
  | none =>
    rw [hl] at hr
    have hstart := RunsTo.accept hready hp (exec_storedKeyBlock hl hb hready.2 (hk hl))
    exact ⟨_, hstart.roundsOfBlock (roundsAt_zero rfl rfl rfl rfl rfl) hready.1 hj hr, rfl⟩
  | some k =>
    rw [hl] at hr
    have hstart := RunsTo.keyCommand hready hp (exec_keyAndBlock hl hb hready.2) rfl
      fun i hi => hr i (Nat.lt_add_right j hi)
    exact ⟨_, hstart.roundsOfBlock (roundsAt_zero rfl rfl rfl rfl rfl) hready.1 hj hr,
      congrArg (keyOrder d) (keyScheduleAt_sixteen_RK k _)⟩

/-- What the trace ports show after round j ≤ 16 of a block. -/
theorem outputs_trace_roundsAt (m : Block) {j : Nat} (hj : j ≤ 16) (x : State) :
    (outputs (roundsAt m j x)).trcSt = (if j < 16 then 0b10#2 else 0b11#2) ∧
    (outputs (roundsAt m j x)).trcCnt = (if j < 16 then BitVec.ofNat 4 j else 0) ∧
    ((outputs (roundsAt m j x)).trcL, (outputs (roundsAt m j x)).trcR) = blockHalves (keyOrder x.dec x.RK) m j := by
  rcases hj.lt_or_eq with hlt | rfl
  · simp [outputs, roundsAt, Phase.code, hlt, hlt.ne]
  · exact ⟨rfl, rfl, rfl⟩

/-- Settles O51: the engine j edges into the rounds is at `roundsAt m j`, and the trace ports show it. -/
theorem traceShowsEveryRound : Obligations.TraceShowsEveryRound := by
  intro c d m s j hb hready hp hk hj hr
  obtain ⟨x, hrun, hkeys⟩ := runsTo_roundsAt_of_blockOperation hb hready hp hk hj hr
  exact ⟨_, hrun, hkeys ▸ outputs_trace_roundsAt m hj x⟩

/-! ## Errors at the accept edge (R243, R249) -/

theorem exec_enc_noKey (m : Block) {s : State} (h : s.st = .idle) (hk : s.keyValid = false) :
    exec (.enc m) s = .next (raise .noKey s) := by
  rw [exec, execEnc, accept_idle _ h, if_neg (by simp [hk])]

theorem exec_dec_noKey (m : Block) {s : State} (h : s.st = .idle) (hk : s.keyValid = false) :
    exec (.dec m) s = .next (raise .noKey s) := by
  rw [exec, execDec, accept_idle _ h, if_neg (by simp [hk])]

/-- A command that raises an error does nothing else (R249): the reserved opcodes, and ENC and DEC without a key. -/
theorem exec_of_error {i : Instr} {s : State} (hs : s.st = .idle) (he : acceptErr s.keyValid i ≠ .ok) :
    exec i s = .next (raise (acceptErr s.keyValid i) s) := by
  cases i with
  | rsvd4 => exact exec_rsvd4_idle hs
  | rsvd5 => exact exec_rsvd5_idle hs
  | enc m =>
    have hk : s.keyValid = false := by simpa [acceptErr] using he
    simpa [acceptErr, hk] using exec_enc_noKey m hs hk
  | dec m =>
    have hk : s.keyValid = false := by simpa [acceptErr] using he
    simpa [acceptErr, hk] using exec_dec_noKey m hs hk
  | nop | ldkey k | enck k m | deck k m => exact absurd rfl he

/-- The accept edge writes to `err` the code of the command's error (R244). -/
theorem exec_err {i : Instr} {s t : State} (hs : s.st = .idle) (he : exec i s = .next t) :
    t.err = acceptErr s.keyValid i := by
  rcases exec_idle_cases hs he with ⟨rfl, rfl⟩ | ⟨rfl | rfl, rfl⟩ | ⟨k, rfl, rfl⟩ | ⟨m, rfl | rfl, hk, rfl⟩ |
    ⟨m, rfl, hk, rfl⟩ | ⟨m, rfl, hk, rfl⟩ | ⟨k, m, rfl, rfl⟩ | ⟨k, m, rfl, rfl⟩ <;>
    simp [acceptErr, *]

/-- Settles O21: `raise` written out, and the code every accept edge leaves. -/
theorem errorsArePrecise : Obligations.ErrorsArePrecise :=
  fun _ _ hs => ⟨exec_of_error hs, fun _ => exec_err hs⟩

/-- No edge that takes no command writes `err` (R244). -/
theorem quietEdge_err (s : State) : (quietEdge s).err = s.err := by
  cases hs : s.st <;> simp [quietEdge, hs]

/-- Settles O24: a step is a reset edge, the accept edge of its command, or an edge that takes none. -/
theorem errReportsTheLastAcceptedCommand : Obligations.ErrReportsTheLastAcceptedCommand := by
  intro s t hstep
  rcases step_accepted_cases hstep with ⟨hr, -, rfl⟩ | ⟨hr, hs, i, u, ha, he, rfl⟩ | ⟨hr, ha, rfl⟩
  · simp [hr]
  · simp [hr, ha, exec_err hs he]
  · simp [hr, ha, quietEdge_err]

/-- Settles O18: without a key the accept edge of ENC and of DEC is `raise`, written out. -/
theorem encAndDecWithoutAKeyRaiseNoKey : Obligations.EncAndDecWithoutAKeyRaiseNoKey :=
  ⟨rfl, fun _ m hs hk => ⟨exec_enc_noKey m hs hk, exec_dec_noKey m hs hk⟩⟩

end Sys2Proof.Machine
end

section
/-!
PROOFS. Reset and hazards (70_reset_and_hazards.md): the reset edge (R270, R278), the edges a busy engine has left before
it waits again, which give every latency (R275, R282), and what timing depends on (R283).
-/

namespace Sys2Proof.Machine

/-! ## The reset edge (R248, R270, R278) -/

/-- An edge with `rst = 1` accepts no command (R248). -/
theorem accepted_of_rst {s : State} (h : s.ports.rst = true) : accepted s = none := by
  simp [accepted, h]

/-- Settles O11: the step is `resetEdge` and the host's next cycle, with no condition on the state. -/
theorem resetEdgeGivesTheResetValues : Obligations.ResetEdgeGivesTheResetValues :=
  fun _ hrst => ⟨accepted_of_rst hrst, _, step_reset hrst, rfl, rfl, rfl, rfl, rfl, rfl, rfl, rfl, rfl, rfl, rfl⟩

/-- Settles O34: a reset edge leaves the engine waiting with no key, in whatever state it falls. -/
theorem resetDuringAKeyScheduleLosesTheKey : Obligations.ResetDuringAKeyScheduleLosesTheKey := by
  intro s t m _ hrst hstep
  obtain rfl : driveNext (resetEdge s) = t := Host.Outcome.next.inj ((step_reset hrst).symm.trans hstep)
  exact ⟨rfl, exec_enc_noKey m rfl rfl, exec_dec_noKey m rfl rfl⟩

/-! ## The edges left before the engine waits (R282) -/

/-- The edges that an engine has left, with no reset, before it is in IDLE: the rest of its key schedule, the sixteen
rounds and FIN after one that continues with a block, the rest of its rounds and FIN, or FIN alone. -/
def edgesLeft (s : State) : Nat :=
  match s.st with
  | .idle => 0
  | .ks => 16 - s.cnt.toNat + if s.chain then 17 else 0
  | .rnd => 17 - s.cnt.toNat
  | .fin => 1

theorem edgesLeft_idle {s : State} (h : s.st = .idle) : edgesLeft s = 0 := by simp [edgesLeft, h]

theorem edgesLeft_ks {s : State} (h : s.st = .ks) :
    edgesLeft s = 16 - s.cnt.toNat + if s.chain then 17 else 0 := by
  simp [edgesLeft, h]

theorem edgesLeft_rnd {s : State} (h : s.st = .rnd) : edgesLeft s = 17 - s.cnt.toNat := by simp [edgesLeft, h]

theorem edgesLeft_fin {s : State} (h : s.st = .fin) : edgesLeft s = 1 := by simp [edgesLeft, h]

theorem edgesLeft_eq_zero_iff {s : State} : edgesLeft s = 0 ↔ s.st = .idle := by
  have hcnt := s.cnt.isLt
  cases hs : s.st with
  | idle => simp [edgesLeft_idle hs]
  | ks => simp only [edgesLeft_ks hs, reduceCtorEq, iff_false]; omega
  | rnd => simp only [edgesLeft_rnd hs, reduceCtorEq, iff_false]; omega
  | fin => simp [edgesLeft_fin hs]

/-- The longest wait is from the first edge of a key schedule that continues with a block. -/
theorem edgesLeft_le (s : State) : edgesLeft s ≤ 33 := by
  cases hs : s.st with
  | idle => simp [edgesLeft_idle hs]
  | ks => rw [edgesLeft_ks hs]; split <;> omega
  | rnd => rw [edgesLeft_rnd hs]; omega
  | fin => simp [edgesLeft_fin hs]

theorem edgesLeft_ksEdge {s : State} (hs : s.st = .ks) : edgesLeft (ksEdge s) + 1 = edgesLeft s := by
  by_cases hlast : s.cnt = 15#4
  · cases hc : s.chain with
    | false => simp [edgesLeft_ks hs, edgesLeft_idle (s := ksEdge s), hlast, hc]
    | true => simp [edgesLeft_ks hs, edgesLeft_rnd (s := ksEdge s), hlast, hc, nextCnt_of_last]
  · have hnext := toNat_nextCnt_of_not_last hlast
    have hlt := (nextCnt s.cnt).isLt
    rw [edgesLeft_ks hs, edgesLeft_ks ((phaseAfterKs_eq_ks_iff _ _).2 hlast), ksEdge_cnt, ksEdge_chain]
    omega

theorem edgesLeft_rndEdge {s : State} (hs : s.st = .rnd) : edgesLeft (rndEdge s) + 1 = edgesLeft s := by
  by_cases hlast : s.cnt = 15#4
  · simp [edgesLeft_rnd hs, edgesLeft_fin (s := rndEdge s), hlast]
  · have hnext := toNat_nextCnt_of_not_last hlast
    have hlt := (nextCnt s.cnt).isLt
    rw [edgesLeft_rnd hs, edgesLeft_rnd ((phaseAfterRnd_eq_rnd_iff _).2 hlast), rndEdge_cnt]
    omega

/-- An edge that takes no command counts down by one, and stays at 0 in IDLE. -/
theorem edgesLeft_quietEdge (s : State) : edgesLeft (quietEdge s) = edgesLeft s - 1 := by
  cases hs : s.st with
  | idle => rw [quietEdge_idle hs, edgesLeft_idle hs]; exact edgesLeft_idle hs
  | ks => rw [quietEdge_ks hs, ← edgesLeft_ksEdge hs, Nat.add_sub_cancel]
  | rnd => rw [quietEdge_rnd hs, ← edgesLeft_rndEdge hs, Nat.add_sub_cancel]
  | fin => rw [quietEdge_fin hs, edgesLeft_fin hs]; exact edgesLeft_idle rfl

theorem edgesLeft_iterate_quietEdge (n : Nat) (s : State) : edgesLeft (quietEdge^[n] s) = edgesLeft s - n := by
  induction n with
  | zero => rfl
  | succ n ih => rw [Function.iterate_succ_apply', edgesLeft_quietEdge, ih, Nat.sub_sub]

/-- Before its last edge the engine is busy. -/
theorem iterate_quietEdge_busy {n : Nat} {s : State} (h : n < edgesLeft s) : (quietEdge^[n] s).st ≠ .idle := by
  rw [Ne, ← edgesLeft_eq_zero_iff, edgesLeft_iterate_quietEdge]
  omega

theorem iterate_quietEdge_edgesLeft_idle (s : State) : (quietEdge^[edgesLeft s] s).st = .idle := by
  rw [← edgesLeft_eq_zero_iff, edgesLeft_iterate_quietEdge, Nat.sub_self]

theorem quietEdge_booted (s : State) : (quietEdge s).booted = s.booted := by
  cases hs : s.st <;> simp [quietEdge, hs]

theorem iterate_quietEdge_booted (n : Nat) (s : State) : (quietEdge^[n] s).booted = s.booted := by
  induction n with
  | zero => rfl
  | succ n ih => rw [Function.iterate_succ_apply', quietEdge_booted, ih]

/-- A run with no reset goes on through the edges its engine has left. -/
theorem RunsTo.iterate_quietEdge {s x : State} {m n : Nat} (h : RunsTo m s x) (hb : x.booted = true)
    (hn : n ≤ edgesLeft x) (hr : NoResetFor (m + n) s) : RunsTo (m + n) s (quietEdge^[n] x) :=
  h.quietEdges (f := fun i => quietEdge^[i] x)
    (fun i hi => ⟨(iterate_quietEdge_booted i x).trans hb, iterate_quietEdge_busy (Nat.lt_of_lt_of_le hi hn),
      (Function.iterate_succ_apply' quietEdge i x).symm⟩) hr

theorem NoResetFor.mono {m n : Nat} {s : State} (h : NoResetFor n s) (hmn : m ≤ n) : NoResetFor m s :=
  fun j hj => h j (Nat.lt_of_lt_of_le hj hmn)

/-! ## Completion at the latency (R29, R282) -/

/-- `done` shows that the engine waits: what the edges of a command in work keep. -/
def DoneWhenIdle (s : State) : Prop := s.done = true ↔ s.st = .idle

/-- The edge of a busy engine writes 1 to `done` just when it ends in IDLE (R29). -/
theorem doneWhenIdle_quietEdge {s : State} (hbusy : s.st ≠ .idle) : DoneWhenIdle (quietEdge s) := by
  cases hs : s.st with
  | idle => exact absurd hs hbusy
  | ks => simp [DoneWhenIdle, quietEdge_ks hs]
  | rnd => simp [DoneWhenIdle, quietEdge_rnd hs]
  | fin => simp [DoneWhenIdle, quietEdge_fin hs]

theorem DoneWhenIdle.iterate_quietEdge {s : State} {n : Nat} (h : DoneWhenIdle s) (hn : n ≤ edgesLeft s) :
    DoneWhenIdle (quietEdge^[n] s) := by
  cases n with
  | zero => exact h
  | succ n =>
    rw [Function.iterate_succ_apply']
    exact doneWhenIdle_quietEdge (iterate_quietEdge_busy hn)

/-- The accept edge is the first of the edges that the latency counts, and completes the command if it is the only one. -/
theorem latency_eq_of_exec {i : Instr} {s x : State} (hs : s.st = .idle) (he : exec i s = .next x) :
    latency s.keyValid i = 1 + edgesLeft x ∧ DoneWhenIdle x := by
  rcases exec_idle_cases hs he with ⟨rfl, rfl⟩ | ⟨rfl | rfl, rfl⟩ | ⟨k, rfl, rfl⟩ | ⟨m, rfl | rfl, hk, rfl⟩ |
    ⟨m, rfl, hk, rfl⟩ | ⟨m, rfl, hk, rfl⟩ | ⟨k, m, rfl, rfl⟩ | ⟨k, m, rfl, rfl⟩ <;>
    simp [latency, edgesLeft, DoneWhenIdle, *]

/-- A run from a presented command: the accept edge, and then the edges the engine has left, one after another. -/
theorem runsTo_of_presents {i : Instr} {s x : State} {n : Nat} (hready : Ready s) (hp : Presents i s)
    (he : exec i s = .next x) (hn : n ≤ edgesLeft x) (hr : NoResetFor (1 + n) s) :
    RunsTo (1 + n) s (quietEdge^[n] x) := by
  obtain ⟨-, -, -, -, hbooted, -⟩ := acceptEdgesKeepWhatTheyDoNotName i s x hready.2 he
  exact (RunsTo.accept hready hp he).iterate_quietEdge (hbooted.trans hready.1) hn hr

/-- Settles O48: the latency is the accept edge and the edges it leaves, which count down to IDLE with `done` 0 until
the last. -/
theorem everyCommandCompletesAtItsLatency : Obligations.EveryCommandCompletesAtItsLatency := by
  intro i s hready hp hr
  obtain ⟨x, he⟩ := exec_answers i s
  obtain ⟨hlatency, hdone⟩ := latency_eq_of_exec hready.2 he
  rw [hlatency] at hr ⊢
  refine ⟨⟨_, runsTo_of_presents hready hp he (Nat.le_refl _) hr, ?_⟩, fun j hj hlt => ?_⟩
  · have hidle := iterate_quietEdge_edgesLeft_idle x
    exact ⟨(hdone.iterate_quietEdge (Nat.le_refl _)).2 hidle, hidle⟩
  · obtain ⟨n, rfl⟩ := Nat.exists_eq_add_of_le hj
    have hn : n < edgesLeft x := Nat.lt_of_add_lt_add_left hlt
    have hbusy := iterate_quietEdge_busy hn
    exact ⟨_, runsTo_of_presents hready hp he hn.le (hr.mono hlt.le),
      Bool.eq_false_iff.2 fun hd => hbusy ((hdone.iterate_quietEdge hn.le).1 hd), hbusy⟩

/-! ## A command held on the ports (R212, R275) -/

theorem accepted_of_busy {s : State} (h : s.st ≠ .idle) : accepted s = none := by
  simp [accepted, h]

theorem accepted_of_presents {i : Instr} {s : State} (hs : s.st = .idle) (hp : Presents i s) :
    accepted s = some i := by
  obtain ⟨hrst, hvalid, rfl⟩ := hp
  simp [accepted, hs, hrst, hvalid]

/-- Settles O49: the engine takes the command when it has no edge left, and accepts nothing while it has. -/
theorem heldCommandIsTakenWithinThirtyThreeEdges : Obligations.HeldCommandIsTakenWithinThirtyThreeEdges := by
  intro i s hb hheld
  have hrun : ∀ n, n ≤ edgesLeft s → RunsTo n s (quietEdge^[n] s) := fun n hn => by
    have hr : NoResetFor (0 + n) s := fun j hj => (hheld j (by have := edgesLeft_le s; omega)).1
    have hstart : RunsTo 0 s s := rfl
    simpa using hstart.iterate_quietEdge hb hn hr
  refine ⟨edgesLeft s, _, edgesLeft_le s, hrun _ (Nat.le_refl _), ?_, fun j hj => ⟨_, hrun j hj.le, ?_⟩⟩
  · exact accepted_of_presents (iterate_quietEdge_edgesLeft_idle s) (hheld _ (edgesLeft_le s))
  · exact accepted_of_busy (iterate_quietEdge_busy hj)

/-! ## What timing depends on (R197, R283) -/

theorem SameTiming.st_eq {s t : State} (h : SameTiming s t) : s.st = t.st := h.1

theorem SameTiming.keyValid_eq {s t : State} (h : SameTiming s t) : s.keyValid = t.keyValid := by
  obtain ⟨-, -, -, hkv, -⟩ := h
  exact hkv

theorem SameTiming.host_eq {s t : State} (h : SameTiming s t) :
    s.booted = t.booted ∧ s.ports.rst = t.ports.rst ∧ s.ports.cmdValid = t.ports.cmdValid ∧
      s.ports.cmdOp = t.ports.cmdOp := by
  obtain ⟨-, -, -, -, -, -, -, hbooted, hports, -⟩ := h
  simpa [Ports.control, hbooted] using hports

/-- Hosts that agree in the control ports of the coming cycles agree in those of the next one. -/
theorem control_headD_congr {us vs : List Ports} (h : us.map Ports.control = vs.map Ports.control) :
    (us.headD Ports.quiet).control = (vs.headD Ports.quiet).control := by
  cases us <;> cases vs <;> simp_all

theorem sameTiming_driveNext {s t : State} (h : SameTiming s t) : SameTiming (driveNext s) (driveNext t) := by
  obtain ⟨hst, hcnt, hchain, hkv, hdv, hdone, herr, hb, -, hupcoming⟩ := h
  refine ⟨hst, hcnt, hchain, hkv, hdv, hdone, herr, hb, control_headD_congr hupcoming, ?_⟩
  simp [hupcoming]

theorem sameTiming_resetEdge {s t : State} (h : SameTiming s t) : SameTiming (resetEdge s) (resetEdge t) := by
  simp_all [SameTiming]

theorem sameTiming_completeWith {s t : State} (h : SameTiming s t) (e : ErrCode) :
    SameTiming (completeWith e s) (completeWith e t) := by
  simp_all [SameTiming]

theorem sameTiming_startRounds {s t : State} (h : SameTiming s t) : SameTiming (startRounds s) (startRounds t) := by
  simp_all [SameTiming]

/-- Neither the block nor its direction is part of the timing. -/
theorem sameTiming_loadBlock {s t : State} (h : SameTiming s t) (m m' : Block) (d d' : Bool) :
    SameTiming (loadBlock m d s) (loadBlock m' d' t) := by
  simp_all [SameTiming]

/-- Whether a block follows the schedule is part of the timing, but its key is not. -/
theorem sameTiming_startKeySchedule {s t : State} (h : SameTiming s t) (k k' : Block) (chain : Bool) :
    SameTiming (startKeySchedule k chain s) (startKeySchedule k' chain t) := by
  simp_all [SameTiming]

/-- Every edge that takes no command computes the control registers from the control registers (R158, R198, R199). -/
theorem sameTiming_quietEdge {s t : State} (h : SameTiming s t) : SameTiming (quietEdge s) (quietEdge t) := by
  have hst := h.st_eq
  cases hs : s.st with
  | idle => rw [quietEdge_idle hs, quietEdge_idle (hst ▸ hs)]; simp_all [SameTiming]
  | ks => rw [quietEdge_ks hs, quietEdge_ks (hst ▸ hs)]; simp_all [SameTiming]
  | rnd => rw [quietEdge_rnd hs, quietEdge_rnd (hst ▸ hs)]; simp_all [SameTiming]
  | fin => rw [quietEdge_fin hs, quietEdge_fin (hst ▸ hs)]; simp_all [SameTiming]

/-- Only the effect at an accept edge is left to compare, and the two effects need not be the same. -/
theorem SameTiming.bothNext_accept {s t : State} {f g : State → State} (h : SameTiming s t)
    (hfg : SameTiming (f s) (g t)) : BothNext SameTiming (accept f s) (accept g t) := by
  by_cases hi : s.st = .idle
  · rw [accept_idle f hi, accept_idle g (h.st_eq ▸ hi)]
    exact hfg
  · rw [accept_busy f hi, accept_busy g (h.st_eq ▸ hi)]
    exact sameTiming_quietEdge h

/-- ENC and DEC start their rounds or raise NO_KEY by `key_valid`, whatever the block. -/
theorem sameTiming_blockCommand {s t : State} (h : SameTiming s t) (m m' : Block) (d : Bool) :
    SameTiming (if s.keyValid then startRounds (loadBlock m d s) else raise .noKey s)
      (if t.keyValid then startRounds (loadBlock m' d t) else raise .noKey t) := by
  rw [← h.keyValid_eq]
  split
  · exact sameTiming_startRounds (sameTiming_loadBlock h m m' d d)
  · exact sameTiming_completeWith h _

/-- Commands with one opcode have one timing, whatever their operands. -/
theorem sameTiming_exec {s t : State} (h : SameTiming s t) {c c' : Command} (hop : c.op = c'.op) :
    BothNext SameTiming (exec (decode c) s) (exec (decode c') t) := by
  obtain ⟨op, k, m⟩ := c
  obtain ⟨op', k', m'⟩ := c'
  obtain rfl : op = op' := hop
  rcases opcode_cases op with rfl | rfl | rfl | rfl | rfl | rfl | rfl | rfl
  · exact h.bothNext_accept (sameTiming_completeWith h .ok)
  · exact h.bothNext_accept (sameTiming_startKeySchedule h k k' false)
  · simp only [decode, exec, execEnc]
    exact h.bothNext_accept (sameTiming_blockCommand h m m' false)
  · simp only [decode, exec, execDec]
    exact h.bothNext_accept (sameTiming_blockCommand h m m' true)
  · exact h.bothNext_accept (sameTiming_completeWith h .illegalCmd)
  · exact h.bothNext_accept (sameTiming_completeWith h .illegalCmd)
  · simp only [decode, exec, execEnck]
    exact h.bothNext_accept (sameTiming_startKeySchedule (sameTiming_loadBlock h m m' false false) k k' true)
  · simp only [decode, exec, execDeck]
    exact h.bothNext_accept (sameTiming_startKeySchedule (sameTiming_loadBlock h m m' true true) k k' true)

theorem SameTiming.bothNext_nextCycle {o o' : Host.Outcome State Fault Refusal} (h : BothNext SameTiming o o') :
    BothNext SameTiming (nextCycle o) (nextCycle o') := by
  cases o <;> cases o' <;> simp_all [BothNext, nextCycle, sameTiming_driveNext]

/-- Settles O59: each of the four ways a step can go is chosen by control registers and control ports, and each keeps
the agreement in them. -/
theorem timingDependsOnControlInputsOnly : Obligations.TimingDependsOnControlInputsOnly := by
  intro s t h
  obtain ⟨hbooted, hrst, hvalid, hop⟩ := h.host_eq
  cases hr : s.ports.rst with
  | true =>
    rw [step_reset hr, step_reset (hrst ▸ hr)]
    exact sameTiming_driveNext (sameTiming_resetEdge h)
  | false =>
    cases hb : s.booted with
    | false =>
      rw [step_unbooted hr hb, step_unbooted (hrst ▸ hr) (hbooted ▸ hb)]
      rfl
    | true =>
      by_cases hv : s.st = .idle ∧ s.ports.cmdValid = true
      · rw [step_accept hr hb hv.1 hv.2, step_accept (hrst ▸ hr) (hbooted ▸ hb) (h.st_eq ▸ hv.1) (hvalid ▸ hv.2)]
        exact SameTiming.bothNext_nextCycle (sameTiming_exec h hop)
      · rw [step_quiet hr hb hv, step_quiet (hrst ▸ hr) (hbooted ▸ hb) (h.st_eq ▸ hvalid ▸ hv)]
        exact sameTiming_driveNext (sameTiming_quietEdge h)

end Sys2Proof.Machine
end
